-- ==== Sys2Proof/Word.lean ====
section
/-! DEFINITION. Sys2Proof/Word.lean: the two word sizes of the machine. -/

namespace Sys2Proof

/-- The unit of every bus access (R172): eight bits, arithmetic modulo 2^8 (R12). -/
abbrev Byte := BitVec 8

/-- Addresses, pc, SP and the register pairs (R51 to R53): sixteen bits, arithmetic modulo 2^16. -/
abbrev Word := BitVec 16

end Sys2Proof
end

