-- ==== Sys2Proof/Machine/Bits.lean ====
section
/-! DEFINITION. Sys2Proof/Machine/Bits.lean: byte order, sign extension and bit fields (R12, R14, R170). -/

namespace Sys2Proof.Machine

/-- Bits 7-0 of a word. -/
def lo (w : Word) : Byte := w.extractLsb' 0 8

/-- Bits 15-8 of a word. -/
def hi (w : Word) : Byte := w.extractLsb' 8 8

/-- `hi:lo`, the first byte in bits 15-8 (R12). -/
def hilo (h l : Byte) : Word := h ++ l

/-- `sext_16` (R12). -/
def sext16 (e : Byte) : Word := e.signExtend 16

/-- `bool(c)` as a one-bit number (R12). -/
def bit (c : Bool) : Nat := if c then 1 else 0

/-- The unsigned number in bits `top` down to `low` of a byte, `v[top:low]` (R12). -/
def field (v : Byte) (top low : Nat) : Nat := v.toNat / 2 ^ low % 2 ^ (top + 1 - low)

end Sys2Proof.Machine
end

