-- ==== Sys2Proof/Syntax.lean ====
section
/-! DEFINITION. Sys2Proof/Syntax.lean: the instructions, one constructor per row of spec/opcode_table.json, its operand
bytes as arguments (R301), in the order of the spec's rules. Each docstring gives the row's encoding and its rule. -/

namespace Sys2Proof

/-- The instruction set (R309, R310, R340). `n` is an unsigned immediate, `e` the raw byte of a signed displacement,
`x` the ignored byte of `STOP`. `At` stands for the parentheses of R345. -/
inductive Instr where
  /-- `PREFIX CB`: CB op2 (R310). -/
  | prefixCb (op2 : Byte)
  /-- `LD B,B`: 40 (R400). -/
  | ldBB
  /-- `LD B,C`: 41 (R400). -/
  | ldBC
  /-- `LD B,D`: 42 (R400). -/
  | ldBD
  /-- `LD B,E`: 43 (R400). -/
  | ldBE
  /-- `LD B,H`: 44 (R400). -/
  | ldBH
  /-- `LD B,L`: 45 (R400). -/
  | ldBL
  /-- `LD B,A`: 47 (R400). -/
  | ldBA
  /-- `LD C,B`: 48 (R400). -/
  | ldCB
  /-- `LD C,C`: 49 (R400). -/
  | ldCC
  /-- `LD C,D`: 4A (R400). -/
  | ldCD
  /-- `LD C,E`: 4B (R400). -/
  | ldCE
  /-- `LD C,H`: 4C (R400). -/
  | ldCH
  /-- `LD C,L`: 4D (R400). -/
  | ldCL
  /-- `LD C,A`: 4F (R400). -/
  | ldCA
  /-- `LD D,B`: 50 (R400). -/
  | ldDB
  /-- `LD D,C`: 51 (R400). -/
  | ldDC
  /-- `LD D,D`: 52 (R400). -/
  | ldDD
  /-- `LD D,E`: 53 (R400). -/
  | ldDE
  /-- `LD D,H`: 54 (R400). -/
  | ldDH
  /-- `LD D,L`: 55 (R400). -/
  | ldDL
  /-- `LD D,A`: 57 (R400). -/
  | ldDA
  /-- `LD E,B`: 58 (R400). -/
  | ldEB
  /-- `LD E,C`: 59 (R400). -/
  | ldEC
  /-- `LD E,D`: 5A (R400). -/
  | ldED
  /-- `LD E,E`: 5B (R400). -/
  | ldEE
  /-- `LD E,H`: 5C (R400). -/
  | ldEH
  /-- `LD E,L`: 5D (R400). -/
  | ldEL
  /-- `LD E,A`: 5F (R400). -/
  | ldEA
  /-- `LD H,B`: 60 (R400). -/
  | ldHB
  /-- `LD H,C`: 61 (R400). -/
  | ldHC
  /-- `LD H,D`: 62 (R400). -/
  | ldHD
  /-- `LD H,E`: 63 (R400). -/
  | ldHE
  /-- `LD H,H`: 64 (R400). -/
  | ldHH
  /-- `LD H,L`: 65 (R400). -/
  | ldHL
  /-- `LD H,A`: 67 (R400). -/
  | ldHA
  /-- `LD L,B`: 68 (R400). -/
  | ldLB
  /-- `LD L,C`: 69 (R400). -/
  | ldLC
  /-- `LD L,D`: 6A (R400). -/
  | ldLD
  /-- `LD L,E`: 6B (R400). -/
  | ldLE
  /-- `LD L,H`: 6C (R400). -/
  | ldLH
  /-- `LD L,L`: 6D (R400). -/
  | ldLL
  /-- `LD L,A`: 6F (R400). -/
  | ldLA
  /-- `LD A,B`: 78 (R400). -/
  | ldAB
  /-- `LD A,C`: 79 (R400). -/
  | ldAC
  /-- `LD A,D`: 7A (R400). -/
  | ldAD
  /-- `LD A,E`: 7B (R400). -/
  | ldAE
  /-- `LD A,H`: 7C (R400). -/
  | ldAH
  /-- `LD A,L`: 7D (R400). -/
  | ldAL
  /-- `LD A,A`: 7F (R400). -/
  | ldAA
  /-- `LD B,n8`: 06 n8 (R401). -/
  | ldBN8 (n : Byte)
  /-- `LD C,n8`: 0E n8 (R401). -/
  | ldCN8 (n : Byte)
  /-- `LD D,n8`: 16 n8 (R401). -/
  | ldDN8 (n : Byte)
  /-- `LD E,n8`: 1E n8 (R401). -/
  | ldEN8 (n : Byte)
  /-- `LD H,n8`: 26 n8 (R401). -/
  | ldHN8 (n : Byte)
  /-- `LD L,n8`: 2E n8 (R401). -/
  | ldLN8 (n : Byte)
  /-- `LD A,n8`: 3E n8 (R401). -/
  | ldAN8 (n : Byte)
  /-- `LD B,(HL)`: 46 (R402). -/
  | ldBAtHl
  /-- `LD C,(HL)`: 4E (R402). -/
  | ldCAtHl
  /-- `LD D,(HL)`: 56 (R402). -/
  | ldDAtHl
  /-- `LD E,(HL)`: 5E (R402). -/
  | ldEAtHl
  /-- `LD H,(HL)`: 66 (R402). -/
  | ldHAtHl
  /-- `LD L,(HL)`: 6E (R402). -/
  | ldLAtHl
  /-- `LD A,(HL)`: 7E (R402). -/
  | ldAAtHl
  /-- `LD (HL),B`: 70 (R403). -/
  | ldAtHlB
  /-- `LD (HL),C`: 71 (R403). -/
  | ldAtHlC
  /-- `LD (HL),D`: 72 (R403). -/
  | ldAtHlD
  /-- `LD (HL),E`: 73 (R403). -/
  | ldAtHlE
  /-- `LD (HL),H`: 74 (R403). -/
  | ldAtHlH
  /-- `LD (HL),L`: 75 (R403). -/
  | ldAtHlL
  /-- `LD (HL),A`: 77 (R403). -/
  | ldAtHlA
  /-- `LD (HL),n8`: 36 n8 (R404). -/
  | ldAtHlN8 (n : Byte)
  /-- `LD A,(BC)`: 0A (R405). -/
  | ldAAtBc
  /-- `LD A,(DE)`: 1A (R406). -/
  | ldAAtDe
  /-- `LD (BC),A`: 02 (R407). -/
  | ldAtBcA
  /-- `LD (DE),A`: 12 (R408). -/
  | ldAtDeA
  /-- `LD A,(n16)`: FA lo hi (R409). -/
  | ldAAtN16 (n : Word)
  /-- `LD (n16),A`: EA lo hi (R410). -/
  | ldAtN16A (n : Word)
  /-- `LDH (n8),A`: E0 n8 (R411). -/
  | ldhAtN8A (n : Byte)
  /-- `LDH A,(n8)`: F0 n8 (R412). -/
  | ldhAAtN8 (n : Byte)
  /-- `LD (C),A`: E2 (R413). -/
  | ldAtCA
  /-- `LD A,(C)`: F2 (R414). -/
  | ldAAtC
  /-- `LD (HL+),A`: 22 (R415). -/
  | ldAtHlIncA
  /-- `LD (HL-),A`: 32 (R416). -/
  | ldAtHlDecA
  /-- `LD A,(HL+)`: 2A (R417). -/
  | ldAAtHlInc
  /-- `LD A,(HL-)`: 3A (R418). -/
  | ldAAtHlDec
  /-- `LD BC,n16`: 01 lo hi (R419). -/
  | ldBcN16 (n : Word)
  /-- `LD DE,n16`: 11 lo hi (R419). -/
  | ldDeN16 (n : Word)
  /-- `LD HL,n16`: 21 lo hi (R419). -/
  | ldHlN16 (n : Word)
  /-- `LD SP,n16`: 31 lo hi (R419). -/
  | ldSpN16 (n : Word)
  /-- `LD (n16),SP`: 08 lo hi (R420). -/
  | ldAtN16Sp (n : Word)
  /-- `LD SP,HL`: F9 (R421). -/
  | ldSpHl
  /-- `PUSH BC`: C5 (R422). -/
  | pushBc
  /-- `PUSH DE`: D5 (R422). -/
  | pushDe
  /-- `PUSH HL`: E5 (R422). -/
  | pushHl
  /-- `PUSH AF`: F5 (R422). -/
  | pushAf
  /-- `POP BC`: C1 (R423). -/
  | popBc
  /-- `POP DE`: D1 (R423). -/
  | popDe
  /-- `POP HL`: E1 (R423). -/
  | popHl
  /-- `POP AF`: F1 (R424). -/
  | popAf
  /-- `ADD A,B`: 80 (R451). -/
  | addAB
  /-- `ADD A,C`: 81 (R451). -/
  | addAC
  /-- `ADD A,D`: 82 (R451). -/
  | addAD
  /-- `ADD A,E`: 83 (R451). -/
  | addAE
  /-- `ADD A,H`: 84 (R451). -/
  | addAH
  /-- `ADD A,L`: 85 (R451). -/
  | addAL
  /-- `ADD A,(HL)`: 86 (R451). -/
  | addAAtHl
  /-- `ADD A,A`: 87 (R451). -/
  | addAA
  /-- `ADD A,n8`: C6 n8 (R451). -/
  | addAN8 (n : Byte)
  /-- `ADC A,B`: 88 (R452). -/
  | adcAB
  /-- `ADC A,C`: 89 (R452). -/
  | adcAC
  /-- `ADC A,D`: 8A (R452). -/
  | adcAD
  /-- `ADC A,E`: 8B (R452). -/
  | adcAE
  /-- `ADC A,H`: 8C (R452). -/
  | adcAH
  /-- `ADC A,L`: 8D (R452). -/
  | adcAL
  /-- `ADC A,(HL)`: 8E (R452). -/
  | adcAAtHl
  /-- `ADC A,A`: 8F (R452). -/
  | adcAA
  /-- `ADC A,n8`: CE n8 (R452). -/
  | adcAN8 (n : Byte)
  /-- `SUB B`: 90 (R453). -/
  | subB
  /-- `SUB C`: 91 (R453). -/
  | subC
  /-- `SUB D`: 92 (R453). -/
  | subD
  /-- `SUB E`: 93 (R453). -/
  | subE
  /-- `SUB H`: 94 (R453). -/
  | subH
  /-- `SUB L`: 95 (R453). -/
  | subL
  /-- `SUB (HL)`: 96 (R453). -/
  | subAtHl
  /-- `SUB A`: 97 (R453). -/
  | subA
  /-- `SUB n8`: D6 n8 (R453). -/
  | subN8 (n : Byte)
  /-- `SBC A,B`: 98 (R454). -/
  | sbcAB
  /-- `SBC A,C`: 99 (R454). -/
  | sbcAC
  /-- `SBC A,D`: 9A (R454). -/
  | sbcAD
  /-- `SBC A,E`: 9B (R454). -/
  | sbcAE
  /-- `SBC A,H`: 9C (R454). -/
  | sbcAH
  /-- `SBC A,L`: 9D (R454). -/
  | sbcAL
  /-- `SBC A,(HL)`: 9E (R454). -/
  | sbcAAtHl
  /-- `SBC A,A`: 9F (R454). -/
  | sbcAA
  /-- `SBC A,n8`: DE n8 (R454). -/
  | sbcAN8 (n : Byte)
  /-- `AND B`: A0 (R455). -/
  | andB
  /-- `AND C`: A1 (R455). -/
  | andC
  /-- `AND D`: A2 (R455). -/
  | andD
  /-- `AND E`: A3 (R455). -/
  | andE
  /-- `AND H`: A4 (R455). -/
  | andH
  /-- `AND L`: A5 (R455). -/
  | andL
  /-- `AND (HL)`: A6 (R455). -/
  | andAtHl
  /-- `AND A`: A7 (R455). -/
  | andA
  /-- `AND n8`: E6 n8 (R455). -/
  | andN8 (n : Byte)
  /-- `XOR B`: A8 (R456). -/
  | xorB
  /-- `XOR C`: A9 (R456). -/
  | xorC
  /-- `XOR D`: AA (R456). -/
  | xorD
  /-- `XOR E`: AB (R456). -/
  | xorE
  /-- `XOR H`: AC (R456). -/
  | xorH
  /-- `XOR L`: AD (R456). -/
  | xorL
  /-- `XOR (HL)`: AE (R456). -/
  | xorAtHl
  /-- `XOR A`: AF (R456). -/
  | xorA
  /-- `XOR n8`: EE n8 (R456). -/
  | xorN8 (n : Byte)
  /-- `OR B`: B0 (R457). -/
  | orB
  /-- `OR C`: B1 (R457). -/
  | orC
  /-- `OR D`: B2 (R457). -/
  | orD
  /-- `OR E`: B3 (R457). -/
  | orE
  /-- `OR H`: B4 (R457). -/
  | orH
  /-- `OR L`: B5 (R457). -/
  | orL
  /-- `OR (HL)`: B6 (R457). -/
  | orAtHl
  /-- `OR A`: B7 (R457). -/
  | orA
  /-- `OR n8`: F6 n8 (R457). -/
  | orN8 (n : Byte)
  /-- `CP B`: B8 (R458). -/
  | cpB
  /-- `CP C`: B9 (R458). -/
  | cpC
  /-- `CP D`: BA (R458). -/
  | cpD
  /-- `CP E`: BB (R458). -/
  | cpE
  /-- `CP H`: BC (R458). -/
  | cpH
  /-- `CP L`: BD (R458). -/
  | cpL
  /-- `CP (HL)`: BE (R458). -/
  | cpAtHl
  /-- `CP A`: BF (R458). -/
  | cpA
  /-- `CP n8`: FE n8 (R458). -/
  | cpN8 (n : Byte)
  /-- `INC B`: 04 (R460). -/
  | incB
  /-- `INC C`: 0C (R460). -/
  | incC
  /-- `INC D`: 14 (R460). -/
  | incD
  /-- `INC E`: 1C (R460). -/
  | incE
  /-- `INC H`: 24 (R460). -/
  | incH
  /-- `INC L`: 2C (R460). -/
  | incL
  /-- `INC A`: 3C (R460). -/
  | incA
  /-- `DEC B`: 05 (R461). -/
  | decB
  /-- `DEC C`: 0D (R461). -/
  | decC
  /-- `DEC D`: 15 (R461). -/
  | decD
  /-- `DEC E`: 1D (R461). -/
  | decE
  /-- `DEC H`: 25 (R461). -/
  | decH
  /-- `DEC L`: 2D (R461). -/
  | decL
  /-- `DEC A`: 3D (R461). -/
  | decA
  /-- `INC (HL)`: 34 (R462). -/
  | incAtHl
  /-- `DEC (HL)`: 35 (R463). -/
  | decAtHl
  /-- `DAA`: 27 (R465). -/
  | daa
  /-- `CPL`: 2F (R466). -/
  | cpl
  /-- `SCF`: 37 (R467). -/
  | scf
  /-- `CCF`: 3F (R468). -/
  | ccf
  /-- `INC BC`: 03 (R490). -/
  | incBc
  /-- `INC DE`: 13 (R490). -/
  | incDe
  /-- `INC HL`: 23 (R490). -/
  | incHl
  /-- `INC SP`: 33 (R490). -/
  | incSp
  /-- `DEC BC`: 0B (R491). -/
  | decBc
  /-- `DEC DE`: 1B (R491). -/
  | decDe
  /-- `DEC HL`: 2B (R491). -/
  | decHl
  /-- `DEC SP`: 3B (R491). -/
  | decSp
  /-- `ADD HL,BC`: 09 (R492). -/
  | addHlBc
  /-- `ADD HL,DE`: 19 (R492). -/
  | addHlDe
  /-- `ADD HL,HL`: 29 (R492). -/
  | addHlHl
  /-- `ADD HL,SP`: 39 (R492). -/
  | addHlSp
  /-- `ADD SP,e8`: E8 e8 (R493). -/
  | addSpE8 (e : Byte)
  /-- `LD HL,SP+e8`: F8 e8 (R494). -/
  | ldHlSpE8 (e : Byte)
  /-- `JP n16`: C3 lo hi (R551). -/
  | jpN16 (n : Word)
  /-- `JP NZ,n16`: C2 lo hi (R552). -/
  | jpNzN16 (n : Word)
  /-- `JP Z,n16`: CA lo hi (R552). -/
  | jpZN16 (n : Word)
  /-- `JP NC,n16`: D2 lo hi (R552). -/
  | jpNcN16 (n : Word)
  /-- `JP C,n16`: DA lo hi (R552). -/
  | jpCN16 (n : Word)
  /-- `JP HL`: E9 (R553). -/
  | jpHl
  /-- `JR e8`: 18 e8 (R554). -/
  | jrE8 (e : Byte)
  /-- `JR NZ,e8`: 20 e8 (R555). -/
  | jrNzE8 (e : Byte)
  /-- `JR Z,e8`: 28 e8 (R555). -/
  | jrZE8 (e : Byte)
  /-- `JR NC,e8`: 30 e8 (R555). -/
  | jrNcE8 (e : Byte)
  /-- `JR C,e8`: 38 e8 (R555). -/
  | jrCE8 (e : Byte)
  /-- `CALL n16`: CD lo hi (R556). -/
  | callN16 (n : Word)
  /-- `CALL NZ,n16`: C4 lo hi (R557). -/
  | callNzN16 (n : Word)
  /-- `CALL Z,n16`: CC lo hi (R557). -/
  | callZN16 (n : Word)
  /-- `CALL NC,n16`: D4 lo hi (R557). -/
  | callNcN16 (n : Word)
  /-- `CALL C,n16`: DC lo hi (R557). -/
  | callCN16 (n : Word)
  /-- `RET`: C9 (R558). -/
  | ret
  /-- `RET NZ`: C0 (R559). -/
  | retNz
  /-- `RET Z`: C8 (R559). -/
  | retZ
  /-- `RET NC`: D0 (R559). -/
  | retNc
  /-- `RET C`: D8 (R559). -/
  | retC
  /-- `RETI`: D9 (R560). -/
  | reti
  /-- `RST 0x00`: C7 (R561). -/
  | rst00
  /-- `RST 0x08`: CF (R561). -/
  | rst08
  /-- `RST 0x10`: D7 (R561). -/
  | rst10
  /-- `RST 0x18`: DF (R561). -/
  | rst18
  /-- `RST 0x20`: E7 (R561). -/
  | rst20
  /-- `RST 0x28`: EF (R561). -/
  | rst28
  /-- `RST 0x30`: F7 (R561). -/
  | rst30
  /-- `RST 0x38`: FF (R561). -/
  | rst38
  /-- `NOP`: 00 (R580). -/
  | nop
  /-- `HALT`: 76 (R581). -/
  | halt
  /-- `STOP`: 10 x (R584). -/
  | stop (x : Byte)
  /-- `EI`: FB (R585). -/
  | ei
  /-- `DI`: F3 (R586). -/
  | di
  /-- `undefined opcode`: D3 (R340). -/
  | undefD3
  /-- `undefined opcode`: DB (R340). -/
  | undefDB
  /-- `undefined opcode`: DD (R340). -/
  | undefDD
  /-- `undefined opcode`: E3 (R340). -/
  | undefE3
  /-- `undefined opcode`: E4 (R340). -/
  | undefE4
  /-- `undefined opcode`: EB (R340). -/
  | undefEB
  /-- `undefined opcode`: EC (R340). -/
  | undefEC
  /-- `undefined opcode`: ED (R340). -/
  | undefED
  /-- `undefined opcode`: F4 (R340). -/
  | undefF4
  /-- `undefined opcode`: FC (R340). -/
  | undefFC
  /-- `undefined opcode`: FD (R340). -/
  | undefFD
  /-- `RLCA`: 07 (R510). -/
  | rlca
  /-- `RRCA`: 0F (R511). -/
  | rrca
  /-- `RLA`: 17 (R512). -/
  | rla
  /-- `RRA`: 1F (R513). -/
  | rra
  /-- `RLC B`: CB 00 (R515). -/
  | rlcB
  /-- `RLC C`: CB 01 (R515). -/
  | rlcC
  /-- `RLC D`: CB 02 (R515). -/
  | rlcD
  /-- `RLC E`: CB 03 (R515). -/
  | rlcE
  /-- `RLC H`: CB 04 (R515). -/
  | rlcH
  /-- `RLC L`: CB 05 (R515). -/
  | rlcL
  /-- `RLC (HL)`: CB 06 (R515). -/
  | rlcAtHl
  /-- `RLC A`: CB 07 (R515). -/
  | rlcA
  /-- `RRC B`: CB 08 (R516). -/
  | rrcB
  /-- `RRC C`: CB 09 (R516). -/
  | rrcC
  /-- `RRC D`: CB 0A (R516). -/
  | rrcD
  /-- `RRC E`: CB 0B (R516). -/
  | rrcE
  /-- `RRC H`: CB 0C (R516). -/
  | rrcH
  /-- `RRC L`: CB 0D (R516). -/
  | rrcL
  /-- `RRC (HL)`: CB 0E (R516). -/
  | rrcAtHl
  /-- `RRC A`: CB 0F (R516). -/
  | rrcA
  /-- `RL B`: CB 10 (R517). -/
  | rlB
  /-- `RL C`: CB 11 (R517). -/
  | rlC
  /-- `RL D`: CB 12 (R517). -/
  | rlD
  /-- `RL E`: CB 13 (R517). -/
  | rlE
  /-- `RL H`: CB 14 (R517). -/
  | rlH
  /-- `RL L`: CB 15 (R517). -/
  | rlL
  /-- `RL (HL)`: CB 16 (R517). -/
  | rlAtHl
  /-- `RL A`: CB 17 (R517). -/
  | rlA
  /-- `RR B`: CB 18 (R518). -/
  | rrB
  /-- `RR C`: CB 19 (R518). -/
  | rrC
  /-- `RR D`: CB 1A (R518). -/
  | rrD
  /-- `RR E`: CB 1B (R518). -/
  | rrE
  /-- `RR H`: CB 1C (R518). -/
  | rrH
  /-- `RR L`: CB 1D (R518). -/
  | rrL
  /-- `RR (HL)`: CB 1E (R518). -/
  | rrAtHl
  /-- `RR A`: CB 1F (R518). -/
  | rrA
  /-- `SLA B`: CB 20 (R519). -/
  | slaB
  /-- `SLA C`: CB 21 (R519). -/
  | slaC
  /-- `SLA D`: CB 22 (R519). -/
  | slaD
  /-- `SLA E`: CB 23 (R519). -/
  | slaE
  /-- `SLA H`: CB 24 (R519). -/
  | slaH
  /-- `SLA L`: CB 25 (R519). -/
  | slaL
  /-- `SLA (HL)`: CB 26 (R519). -/
  | slaAtHl
  /-- `SLA A`: CB 27 (R519). -/
  | slaA
  /-- `SRA B`: CB 28 (R520). -/
  | sraB
  /-- `SRA C`: CB 29 (R520). -/
  | sraC
  /-- `SRA D`: CB 2A (R520). -/
  | sraD
  /-- `SRA E`: CB 2B (R520). -/
  | sraE
  /-- `SRA H`: CB 2C (R520). -/
  | sraH
  /-- `SRA L`: CB 2D (R520). -/
  | sraL
  /-- `SRA (HL)`: CB 2E (R520). -/
  | sraAtHl
  /-- `SRA A`: CB 2F (R520). -/
  | sraA
  /-- `SWAP B`: CB 30 (R521). -/
  | swapB
  /-- `SWAP C`: CB 31 (R521). -/
  | swapC
  /-- `SWAP D`: CB 32 (R521). -/
  | swapD
  /-- `SWAP E`: CB 33 (R521). -/
  | swapE
  /-- `SWAP H`: CB 34 (R521). -/
  | swapH
  /-- `SWAP L`: CB 35 (R521). -/
  | swapL
  /-- `SWAP (HL)`: CB 36 (R521). -/
  | swapAtHl
  /-- `SWAP A`: CB 37 (R521). -/
  | swapA
  /-- `SRL B`: CB 38 (R522). -/
  | srlB
  /-- `SRL C`: CB 39 (R522). -/
  | srlC
  /-- `SRL D`: CB 3A (R522). -/
  | srlD
  /-- `SRL E`: CB 3B (R522). -/
  | srlE
  /-- `SRL H`: CB 3C (R522). -/
  | srlH
  /-- `SRL L`: CB 3D (R522). -/
  | srlL
  /-- `SRL (HL)`: CB 3E (R522). -/
  | srlAtHl
  /-- `SRL A`: CB 3F (R522). -/
  | srlA
  /-- `BIT 0,B`: CB 40 (R525). -/
  | bit0B
  /-- `BIT 0,C`: CB 41 (R525). -/
  | bit0C
  /-- `BIT 0,D`: CB 42 (R525). -/
  | bit0D
  /-- `BIT 0,E`: CB 43 (R525). -/
  | bit0E
  /-- `BIT 0,H`: CB 44 (R525). -/
  | bit0H
  /-- `BIT 0,L`: CB 45 (R525). -/
  | bit0L
  /-- `BIT 0,(HL)`: CB 46 (R525). -/
  | bit0AtHl
  /-- `BIT 0,A`: CB 47 (R525). -/
  | bit0A
  /-- `BIT 1,B`: CB 48 (R525). -/
  | bit1B
  /-- `BIT 1,C`: CB 49 (R525). -/
  | bit1C
  /-- `BIT 1,D`: CB 4A (R525). -/
  | bit1D
  /-- `BIT 1,E`: CB 4B (R525). -/
  | bit1E
  /-- `BIT 1,H`: CB 4C (R525). -/
  | bit1H
  /-- `BIT 1,L`: CB 4D (R525). -/
  | bit1L
  /-- `BIT 1,(HL)`: CB 4E (R525). -/
  | bit1AtHl
  /-- `BIT 1,A`: CB 4F (R525). -/
  | bit1A
  /-- `BIT 2,B`: CB 50 (R525). -/
  | bit2B
  /-- `BIT 2,C`: CB 51 (R525). -/
  | bit2C
  /-- `BIT 2,D`: CB 52 (R525). -/
  | bit2D
  /-- `BIT 2,E`: CB 53 (R525). -/
  | bit2E
  /-- `BIT 2,H`: CB 54 (R525). -/
  | bit2H
  /-- `BIT 2,L`: CB 55 (R525). -/
  | bit2L
  /-- `BIT 2,(HL)`: CB 56 (R525). -/
  | bit2AtHl
  /-- `BIT 2,A`: CB 57 (R525). -/
  | bit2A
  /-- `BIT 3,B`: CB 58 (R525). -/
  | bit3B
  /-- `BIT 3,C`: CB 59 (R525). -/
  | bit3C
  /-- `BIT 3,D`: CB 5A (R525). -/
  | bit3D
  /-- `BIT 3,E`: CB 5B (R525). -/
  | bit3E
  /-- `BIT 3,H`: CB 5C (R525). -/
  | bit3H
  /-- `BIT 3,L`: CB 5D (R525). -/
  | bit3L
  /-- `BIT 3,(HL)`: CB 5E (R525). -/
  | bit3AtHl
  /-- `BIT 3,A`: CB 5F (R525). -/
  | bit3A
  /-- `BIT 4,B`: CB 60 (R525). -/
  | bit4B
  /-- `BIT 4,C`: CB 61 (R525). -/
  | bit4C
  /-- `BIT 4,D`: CB 62 (R525). -/
  | bit4D
  /-- `BIT 4,E`: CB 63 (R525). -/
  | bit4E
  /-- `BIT 4,H`: CB 64 (R525). -/
  | bit4H
  /-- `BIT 4,L`: CB 65 (R525). -/
  | bit4L
  /-- `BIT 4,(HL)`: CB 66 (R525). -/
  | bit4AtHl
  /-- `BIT 4,A`: CB 67 (R525). -/
  | bit4A
  /-- `BIT 5,B`: CB 68 (R525). -/
  | bit5B
  /-- `BIT 5,C`: CB 69 (R525). -/
  | bit5C
  /-- `BIT 5,D`: CB 6A (R525). -/
  | bit5D
  /-- `BIT 5,E`: CB 6B (R525). -/
  | bit5E
  /-- `BIT 5,H`: CB 6C (R525). -/
  | bit5H
  /-- `BIT 5,L`: CB 6D (R525). -/
  | bit5L
  /-- `BIT 5,(HL)`: CB 6E (R525). -/
  | bit5AtHl
  /-- `BIT 5,A`: CB 6F (R525). -/
  | bit5A
  /-- `BIT 6,B`: CB 70 (R525). -/
  | bit6B
  /-- `BIT 6,C`: CB 71 (R525). -/
  | bit6C
  /-- `BIT 6,D`: CB 72 (R525). -/
  | bit6D
  /-- `BIT 6,E`: CB 73 (R525). -/
  | bit6E
  /-- `BIT 6,H`: CB 74 (R525). -/
  | bit6H
  /-- `BIT 6,L`: CB 75 (R525). -/
  | bit6L
  /-- `BIT 6,(HL)`: CB 76 (R525). -/
  | bit6AtHl
  /-- `BIT 6,A`: CB 77 (R525). -/
  | bit6A
  /-- `BIT 7,B`: CB 78 (R525). -/
  | bit7B
  /-- `BIT 7,C`: CB 79 (R525). -/
  | bit7C
  /-- `BIT 7,D`: CB 7A (R525). -/
  | bit7D
  /-- `BIT 7,E`: CB 7B (R525). -/
  | bit7E
  /-- `BIT 7,H`: CB 7C (R525). -/
  | bit7H
  /-- `BIT 7,L`: CB 7D (R525). -/
  | bit7L
  /-- `BIT 7,(HL)`: CB 7E (R525). -/
  | bit7AtHl
  /-- `BIT 7,A`: CB 7F (R525). -/
  | bit7A
  /-- `RES 0,B`: CB 80 (R526). -/
  | res0B
  /-- `RES 0,C`: CB 81 (R526). -/
  | res0C
  /-- `RES 0,D`: CB 82 (R526). -/
  | res0D
  /-- `RES 0,E`: CB 83 (R526). -/
  | res0E
  /-- `RES 0,H`: CB 84 (R526). -/
  | res0H
  /-- `RES 0,L`: CB 85 (R526). -/
  | res0L
  /-- `RES 0,(HL)`: CB 86 (R526). -/
  | res0AtHl
  /-- `RES 0,A`: CB 87 (R526). -/
  | res0A
  /-- `RES 1,B`: CB 88 (R526). -/
  | res1B
  /-- `RES 1,C`: CB 89 (R526). -/
  | res1C
  /-- `RES 1,D`: CB 8A (R526). -/
  | res1D
  /-- `RES 1,E`: CB 8B (R526). -/
  | res1E
  /-- `RES 1,H`: CB 8C (R526). -/
  | res1H
  /-- `RES 1,L`: CB 8D (R526). -/
  | res1L
  /-- `RES 1,(HL)`: CB 8E (R526). -/
  | res1AtHl
  /-- `RES 1,A`: CB 8F (R526). -/
  | res1A
  /-- `RES 2,B`: CB 90 (R526). -/
  | res2B
  /-- `RES 2,C`: CB 91 (R526). -/
  | res2C
  /-- `RES 2,D`: CB 92 (R526). -/
  | res2D
  /-- `RES 2,E`: CB 93 (R526). -/
  | res2E
  /-- `RES 2,H`: CB 94 (R526). -/
  | res2H
  /-- `RES 2,L`: CB 95 (R526). -/
  | res2L
  /-- `RES 2,(HL)`: CB 96 (R526). -/
  | res2AtHl
  /-- `RES 2,A`: CB 97 (R526). -/
  | res2A
  /-- `RES 3,B`: CB 98 (R526). -/
  | res3B
  /-- `RES 3,C`: CB 99 (R526). -/
  | res3C
  /-- `RES 3,D`: CB 9A (R526). -/
  | res3D
  /-- `RES 3,E`: CB 9B (R526). -/
  | res3E
  /-- `RES 3,H`: CB 9C (R526). -/
  | res3H
  /-- `RES 3,L`: CB 9D (R526). -/
  | res3L
  /-- `RES 3,(HL)`: CB 9E (R526). -/
  | res3AtHl
  /-- `RES 3,A`: CB 9F (R526). -/
  | res3A
  /-- `RES 4,B`: CB A0 (R526). -/
  | res4B
  /-- `RES 4,C`: CB A1 (R526). -/
  | res4C
  /-- `RES 4,D`: CB A2 (R526). -/
  | res4D
  /-- `RES 4,E`: CB A3 (R526). -/
  | res4E
  /-- `RES 4,H`: CB A4 (R526). -/
  | res4H
  /-- `RES 4,L`: CB A5 (R526). -/
  | res4L
  /-- `RES 4,(HL)`: CB A6 (R526). -/
  | res4AtHl
  /-- `RES 4,A`: CB A7 (R526). -/
  | res4A
  /-- `RES 5,B`: CB A8 (R526). -/
  | res5B
  /-- `RES 5,C`: CB A9 (R526). -/
  | res5C
  /-- `RES 5,D`: CB AA (R526). -/
  | res5D
  /-- `RES 5,E`: CB AB (R526). -/
  | res5E
  /-- `RES 5,H`: CB AC (R526). -/
  | res5H
  /-- `RES 5,L`: CB AD (R526). -/
  | res5L
  /-- `RES 5,(HL)`: CB AE (R526). -/
  | res5AtHl
  /-- `RES 5,A`: CB AF (R526). -/
  | res5A
  /-- `RES 6,B`: CB B0 (R526). -/
  | res6B
  /-- `RES 6,C`: CB B1 (R526). -/
  | res6C
  /-- `RES 6,D`: CB B2 (R526). -/
  | res6D
  /-- `RES 6,E`: CB B3 (R526). -/
  | res6E
  /-- `RES 6,H`: CB B4 (R526). -/
  | res6H
  /-- `RES 6,L`: CB B5 (R526). -/
  | res6L
  /-- `RES 6,(HL)`: CB B6 (R526). -/
  | res6AtHl
  /-- `RES 6,A`: CB B7 (R526). -/
  | res6A
  /-- `RES 7,B`: CB B8 (R526). -/
  | res7B
  /-- `RES 7,C`: CB B9 (R526). -/
  | res7C
  /-- `RES 7,D`: CB BA (R526). -/
  | res7D
  /-- `RES 7,E`: CB BB (R526). -/
  | res7E
  /-- `RES 7,H`: CB BC (R526). -/
  | res7H
  /-- `RES 7,L`: CB BD (R526). -/
  | res7L
  /-- `RES 7,(HL)`: CB BE (R526). -/
  | res7AtHl
  /-- `RES 7,A`: CB BF (R526). -/
  | res7A
  /-- `SET 0,B`: CB C0 (R527). -/
  | set0B
  /-- `SET 0,C`: CB C1 (R527). -/
  | set0C
  /-- `SET 0,D`: CB C2 (R527). -/
  | set0D
  /-- `SET 0,E`: CB C3 (R527). -/
  | set0E
  /-- `SET 0,H`: CB C4 (R527). -/
  | set0H
  /-- `SET 0,L`: CB C5 (R527). -/
  | set0L
  /-- `SET 0,(HL)`: CB C6 (R527). -/
  | set0AtHl
  /-- `SET 0,A`: CB C7 (R527). -/
  | set0A
  /-- `SET 1,B`: CB C8 (R527). -/
  | set1B
  /-- `SET 1,C`: CB C9 (R527). -/
  | set1C
  /-- `SET 1,D`: CB CA (R527). -/
  | set1D
  /-- `SET 1,E`: CB CB (R527). -/
  | set1E
  /-- `SET 1,H`: CB CC (R527). -/
  | set1H
  /-- `SET 1,L`: CB CD (R527). -/
  | set1L
  /-- `SET 1,(HL)`: CB CE (R527). -/
  | set1AtHl
  /-- `SET 1,A`: CB CF (R527). -/
  | set1A
  /-- `SET 2,B`: CB D0 (R527). -/
  | set2B
  /-- `SET 2,C`: CB D1 (R527). -/
  | set2C
  /-- `SET 2,D`: CB D2 (R527). -/
  | set2D
  /-- `SET 2,E`: CB D3 (R527). -/
  | set2E
  /-- `SET 2,H`: CB D4 (R527). -/
  | set2H
  /-- `SET 2,L`: CB D5 (R527). -/
  | set2L
  /-- `SET 2,(HL)`: CB D6 (R527). -/
  | set2AtHl
  /-- `SET 2,A`: CB D7 (R527). -/
  | set2A
  /-- `SET 3,B`: CB D8 (R527). -/
  | set3B
  /-- `SET 3,C`: CB D9 (R527). -/
  | set3C
  /-- `SET 3,D`: CB DA (R527). -/
  | set3D
  /-- `SET 3,E`: CB DB (R527). -/
  | set3E
  /-- `SET 3,H`: CB DC (R527). -/
  | set3H
  /-- `SET 3,L`: CB DD (R527). -/
  | set3L
  /-- `SET 3,(HL)`: CB DE (R527). -/
  | set3AtHl
  /-- `SET 3,A`: CB DF (R527). -/
  | set3A
  /-- `SET 4,B`: CB E0 (R527). -/
  | set4B
  /-- `SET 4,C`: CB E1 (R527). -/
  | set4C
  /-- `SET 4,D`: CB E2 (R527). -/
  | set4D
  /-- `SET 4,E`: CB E3 (R527). -/
  | set4E
  /-- `SET 4,H`: CB E4 (R527). -/
  | set4H
  /-- `SET 4,L`: CB E5 (R527). -/
  | set4L
  /-- `SET 4,(HL)`: CB E6 (R527). -/
  | set4AtHl
  /-- `SET 4,A`: CB E7 (R527). -/
  | set4A
  /-- `SET 5,B`: CB E8 (R527). -/
  | set5B
  /-- `SET 5,C`: CB E9 (R527). -/
  | set5C
  /-- `SET 5,D`: CB EA (R527). -/
  | set5D
  /-- `SET 5,E`: CB EB (R527). -/
  | set5E
  /-- `SET 5,H`: CB EC (R527). -/
  | set5H
  /-- `SET 5,L`: CB ED (R527). -/
  | set5L
  /-- `SET 5,(HL)`: CB EE (R527). -/
  | set5AtHl
  /-- `SET 5,A`: CB EF (R527). -/
  | set5A
  /-- `SET 6,B`: CB F0 (R527). -/
  | set6B
  /-- `SET 6,C`: CB F1 (R527). -/
  | set6C
  /-- `SET 6,D`: CB F2 (R527). -/
  | set6D
  /-- `SET 6,E`: CB F3 (R527). -/
  | set6E
  /-- `SET 6,H`: CB F4 (R527). -/
  | set6H
  /-- `SET 6,L`: CB F5 (R527). -/
  | set6L
  /-- `SET 6,(HL)`: CB F6 (R527). -/
  | set6AtHl
  /-- `SET 6,A`: CB F7 (R527). -/
  | set6A
  /-- `SET 7,B`: CB F8 (R527). -/
  | set7B
  /-- `SET 7,C`: CB F9 (R527). -/
  | set7C
  /-- `SET 7,D`: CB FA (R527). -/
  | set7D
  /-- `SET 7,E`: CB FB (R527). -/
  | set7E
  /-- `SET 7,H`: CB FC (R527). -/
  | set7H
  /-- `SET 7,L`: CB FD (R527). -/
  | set7L
  /-- `SET 7,(HL)`: CB FE (R527). -/
  | set7AtHl
  /-- `SET 7,A`: CB FF (R527). -/
  | set7A
deriving DecidableEq, Repr

end Sys2Proof
end

