-- ==== Sys2Proof/WellFormed.lean ====
section
/-! DEFINITION. Sys2Proof/WellFormed.lean: which terms of `Instr` are instructions of the machine. -/

namespace Sys2Proof

/-- Every operand value is legal (R341), so every term but one kind is well formed: `PREFIX_CB` is the row of a prefix,
whose two bytes are the instruction of R321 that the second byte selects (R310), so those bytes decode to that
instruction and never to `prefixCb` (log 18). -/
def Instr.wf : Instr → Bool
  | .prefixCb _ => false
  | _ => true

end Sys2Proof
end

