-- ==== Sys2Proof/Decode.lean ====
section
/-! DEFINITION. Sys2Proof/Decode.lean: the two opcode maps of R320 and R321, row by row, the formats of R301, the decoder
over bytes, and the encoder. -/

namespace Sys2Proof

open Sys2Proof.Machine

/-- The formats of R301. -/
inductive Format where
  | op
  | opN8
  | opE8
  | opN16
  | opIgn8
  | cbOp
deriving DecidableEq, Repr

/-- The format of an instruction, fixed by its first byte (R300, R301). -/
def formatOf (op : Byte) : Format :=
  if op ∈ [0x06#8, 0x0E#8, 0x16#8, 0x1E#8, 0x26#8, 0x2E#8, 0x3E#8, 0x36#8, 0xE0#8, 0xF0#8, 0xC6#8, 0xCE#8, 0xD6#8, 0xDE#8,
      0xE6#8, 0xEE#8, 0xF6#8, 0xFE#8] then .opN8
  else if op ∈ [0xE8#8, 0xF8#8, 0x18#8, 0x20#8, 0x28#8, 0x30#8, 0x38#8] then .opE8
  else if op ∈ [0xFA#8, 0xEA#8, 0x01#8, 0x11#8, 0x21#8, 0x31#8, 0x08#8, 0xC3#8, 0xC2#8, 0xCA#8, 0xD2#8, 0xDA#8, 0xCD#8, 0xC4#8,
      0xCC#8, 0xD4#8, 0xDC#8] then .opN16
  else if op = 0x10#8 then .opIgn8
  else if op = 0xCB#8 then .cbOp
  else .op

/-- Bytes of an instruction of each format (R301). -/
def Format.bytes : Format → Nat
  | .op => 1
  | .opN8 => 2
  | .opE8 => 2
  | .opN16 => 3
  | .opIgn8 => 2
  | .cbOp => 2

/-- The length of an instruction, fixed by its first byte (R300). -/
def instrLength (op : Byte) : Nat := (formatOf op).bytes

/-- Row 0x of R320. -/
def mainRow0 (n : Byte) (w : Word) : List Instr :=
  [.nop, .ldBcN16 w, .ldAtBcA, .incBc, .incB, .decB, .ldBN8 n, .rlca, .ldAtN16Sp w, .addHlBc, .ldAAtBc, .decBc,
   .incC, .decC, .ldCN8 n, .rrca]

/-- Row 1x of R320. -/
def mainRow1 (n : Byte) (w : Word) : List Instr :=
  [.stop n, .ldDeN16 w, .ldAtDeA, .incDe, .incD, .decD, .ldDN8 n, .rla, .jrE8 n, .addHlDe, .ldAAtDe, .decDe,
   .incE, .decE, .ldEN8 n, .rra]

/-- Row 2x of R320. -/
def mainRow2 (n : Byte) (w : Word) : List Instr :=
  [.jrNzE8 n, .ldHlN16 w, .ldAtHlIncA, .incHl, .incH, .decH, .ldHN8 n, .daa, .jrZE8 n, .addHlHl, .ldAAtHlInc,
   .decHl, .incL, .decL, .ldLN8 n, .cpl]

/-- Row 3x of R320. -/
def mainRow3 (n : Byte) (w : Word) : List Instr :=
  [.jrNcE8 n, .ldSpN16 w, .ldAtHlDecA, .incSp, .incAtHl, .decAtHl, .ldAtHlN8 n, .scf, .jrCE8 n, .addHlSp,
   .ldAAtHlDec, .decSp, .incA, .decA, .ldAN8 n, .ccf]

/-- Row 4x of R320. -/
def mainRow4 (_n : Byte) (_w : Word) : List Instr :=
  [.ldBB, .ldBC, .ldBD, .ldBE, .ldBH, .ldBL, .ldBAtHl, .ldBA, .ldCB, .ldCC, .ldCD, .ldCE, .ldCH, .ldCL, .ldCAtHl,
   .ldCA]

/-- Row 5x of R320. -/
def mainRow5 (_n : Byte) (_w : Word) : List Instr :=
  [.ldDB, .ldDC, .ldDD, .ldDE, .ldDH, .ldDL, .ldDAtHl, .ldDA, .ldEB, .ldEC, .ldED, .ldEE, .ldEH, .ldEL, .ldEAtHl,
   .ldEA]

/-- Row 6x of R320. -/
def mainRow6 (_n : Byte) (_w : Word) : List Instr :=
  [.ldHB, .ldHC, .ldHD, .ldHE, .ldHH, .ldHL, .ldHAtHl, .ldHA, .ldLB, .ldLC, .ldLD, .ldLE, .ldLH, .ldLL, .ldLAtHl,
   .ldLA]

/-- Row 7x of R320. -/
def mainRow7 (_n : Byte) (_w : Word) : List Instr :=
  [.ldAtHlB, .ldAtHlC, .ldAtHlD, .ldAtHlE, .ldAtHlH, .ldAtHlL, .halt, .ldAtHlA, .ldAB, .ldAC, .ldAD, .ldAE, .ldAH,
   .ldAL, .ldAAtHl, .ldAA]

/-- Row 8x of R320. -/
def mainRow8 (_n : Byte) (_w : Word) : List Instr :=
  [.addAB, .addAC, .addAD, .addAE, .addAH, .addAL, .addAAtHl, .addAA, .adcAB, .adcAC, .adcAD, .adcAE, .adcAH,
   .adcAL, .adcAAtHl, .adcAA]

/-- Row 9x of R320. -/
def mainRow9 (_n : Byte) (_w : Word) : List Instr :=
  [.subB, .subC, .subD, .subE, .subH, .subL, .subAtHl, .subA, .sbcAB, .sbcAC, .sbcAD, .sbcAE, .sbcAH, .sbcAL,
   .sbcAAtHl, .sbcAA]

/-- Row Ax of R320. -/
def mainRowA (_n : Byte) (_w : Word) : List Instr :=
  [.andB, .andC, .andD, .andE, .andH, .andL, .andAtHl, .andA, .xorB, .xorC, .xorD, .xorE, .xorH, .xorL, .xorAtHl,
   .xorA]

/-- Row Bx of R320. -/
def mainRowB (_n : Byte) (_w : Word) : List Instr :=
  [.orB, .orC, .orD, .orE, .orH, .orL, .orAtHl, .orA, .cpB, .cpC, .cpD, .cpE, .cpH, .cpL, .cpAtHl, .cpA]

/-- Row Cx of R320. -/
def mainRowC (n : Byte) (w : Word) : List Instr :=
  [.retNz, .popBc, .jpNzN16 w, .jpN16 w, .callNzN16 w, .pushBc, .addAN8 n, .rst00, .retZ, .ret, .jpZN16 w,
   .prefixCb n, .callZN16 w, .callN16 w, .adcAN8 n, .rst08]

/-- Row Dx of R320. -/
def mainRowD (n : Byte) (w : Word) : List Instr :=
  [.retNc, .popDe, .jpNcN16 w, .undefD3, .callNcN16 w, .pushDe, .subN8 n, .rst10, .retC, .reti, .jpCN16 w,
   .undefDB, .callCN16 w, .undefDD, .sbcAN8 n, .rst18]

/-- Row Ex of R320. -/
def mainRowE (n : Byte) (w : Word) : List Instr :=
  [.ldhAtN8A n, .popHl, .ldAtCA, .undefE3, .undefE4, .pushHl, .andN8 n, .rst20, .addSpE8 n, .jpHl, .ldAtN16A w,
   .undefEB, .undefEC, .undefED, .xorN8 n, .rst28]

/-- Row Fx of R320. -/
def mainRowF (n : Byte) (w : Word) : List Instr :=
  [.ldhAAtN8 n, .popAf, .ldAAtC, .di, .undefF4, .pushAf, .orN8 n, .rst30, .ldHlSpE8 n, .ldSpHl, .ldAAtN16 w, .ei,
   .undefFC, .undefFD, .cpN8 n, .rst38]

/-- Row 0x of R321. -/
def cbRow0 : List Instr :=
  [.rlcB, .rlcC, .rlcD, .rlcE, .rlcH, .rlcL, .rlcAtHl, .rlcA, .rrcB, .rrcC, .rrcD, .rrcE, .rrcH, .rrcL, .rrcAtHl,
   .rrcA]

/-- Row 1x of R321. -/
def cbRow1 : List Instr :=
  [.rlB, .rlC, .rlD, .rlE, .rlH, .rlL, .rlAtHl, .rlA, .rrB, .rrC, .rrD, .rrE, .rrH, .rrL, .rrAtHl, .rrA]

/-- Row 2x of R321. -/
def cbRow2 : List Instr :=
  [.slaB, .slaC, .slaD, .slaE, .slaH, .slaL, .slaAtHl, .slaA, .sraB, .sraC, .sraD, .sraE, .sraH, .sraL, .sraAtHl,
   .sraA]

/-- Row 3x of R321. -/
def cbRow3 : List Instr :=
  [.swapB, .swapC, .swapD, .swapE, .swapH, .swapL, .swapAtHl, .swapA, .srlB, .srlC, .srlD, .srlE, .srlH, .srlL,
   .srlAtHl, .srlA]

/-- Row 4x of R321. -/
def cbRow4 : List Instr :=
  [.bit0B, .bit0C, .bit0D, .bit0E, .bit0H, .bit0L, .bit0AtHl, .bit0A, .bit1B, .bit1C, .bit1D, .bit1E, .bit1H,
   .bit1L, .bit1AtHl, .bit1A]

/-- Row 5x of R321. -/
def cbRow5 : List Instr :=
  [.bit2B, .bit2C, .bit2D, .bit2E, .bit2H, .bit2L, .bit2AtHl, .bit2A, .bit3B, .bit3C, .bit3D, .bit3E, .bit3H,
   .bit3L, .bit3AtHl, .bit3A]

/-- Row 6x of R321. -/
def cbRow6 : List Instr :=
  [.bit4B, .bit4C, .bit4D, .bit4E, .bit4H, .bit4L, .bit4AtHl, .bit4A, .bit5B, .bit5C, .bit5D, .bit5E, .bit5H,
   .bit5L, .bit5AtHl, .bit5A]

/-- Row 7x of R321. -/
def cbRow7 : List Instr :=
  [.bit6B, .bit6C, .bit6D, .bit6E, .bit6H, .bit6L, .bit6AtHl, .bit6A, .bit7B, .bit7C, .bit7D, .bit7E, .bit7H,
   .bit7L, .bit7AtHl, .bit7A]

/-- Row 8x of R321. -/
def cbRow8 : List Instr :=
  [.res0B, .res0C, .res0D, .res0E, .res0H, .res0L, .res0AtHl, .res0A, .res1B, .res1C, .res1D, .res1E, .res1H,
   .res1L, .res1AtHl, .res1A]

/-- Row 9x of R321. -/
def cbRow9 : List Instr :=
  [.res2B, .res2C, .res2D, .res2E, .res2H, .res2L, .res2AtHl, .res2A, .res3B, .res3C, .res3D, .res3E, .res3H,
   .res3L, .res3AtHl, .res3A]

/-- Row Ax of R321. -/
def cbRowA : List Instr :=
  [.res4B, .res4C, .res4D, .res4E, .res4H, .res4L, .res4AtHl, .res4A, .res5B, .res5C, .res5D, .res5E, .res5H,
   .res5L, .res5AtHl, .res5A]

/-- Row Bx of R321. -/
def cbRowB : List Instr :=
  [.res6B, .res6C, .res6D, .res6E, .res6H, .res6L, .res6AtHl, .res6A, .res7B, .res7C, .res7D, .res7E, .res7H,
   .res7L, .res7AtHl, .res7A]

/-- Row Cx of R321. -/
def cbRowC : List Instr :=
  [.set0B, .set0C, .set0D, .set0E, .set0H, .set0L, .set0AtHl, .set0A, .set1B, .set1C, .set1D, .set1E, .set1H,
   .set1L, .set1AtHl, .set1A]

/-- Row Dx of R321. -/
def cbRowD : List Instr :=
  [.set2B, .set2C, .set2D, .set2E, .set2H, .set2L, .set2AtHl, .set2A, .set3B, .set3C, .set3D, .set3E, .set3H,
   .set3L, .set3AtHl, .set3A]

/-- Row Ex of R321. -/
def cbRowE : List Instr :=
  [.set4B, .set4C, .set4D, .set4E, .set4H, .set4L, .set4AtHl, .set4A, .set5B, .set5C, .set5D, .set5E, .set5H,
   .set5L, .set5AtHl, .set5A]

/-- Row Fx of R321. -/
def cbRowF : List Instr :=
  [.set6B, .set6C, .set6D, .set6E, .set6H, .set6L, .set6AtHl, .set6A, .set7B, .set7C, .set7D, .set7E, .set7H,
   .set7L, .set7AtHl, .set7A]

/-- The map of R320 with the operand `n` or `w` filled in. The cell of 0xCB stands for the prefix; `decode3` leads it to
R321. -/
def mainMap (n : Byte) (w : Word) : List (List Instr) :=
  [mainRow0 n w, mainRow1 n w, mainRow2 n w, mainRow3 n w, mainRow4 n w, mainRow5 n w, mainRow6 n w, mainRow7 n w,
   mainRow8 n w, mainRow9 n w, mainRowA n w, mainRowB n w, mainRowC n w, mainRowD n w, mainRowE n w, mainRowF n w]

/-- The map of R321. -/
def cbMap : List (List Instr) :=
  [cbRow0, cbRow1, cbRow2, cbRow3, cbRow4, cbRow5, cbRow6, cbRow7, cbRow8, cbRow9, cbRowA, cbRowB, cbRowC, cbRowD,
   cbRowE, cbRowF]

/-- The cell of a map at a byte: row its high nibble, column its low nibble. A map has 16 rows of 16 cells, so the
default is never taken. -/
def cellAt (map : List (List Instr)) (op : Byte) : Instr := (map.getD (op.toNat / 16) []).getD (op.toNat % 16) .nop

/-- The instruction whose bytes are `op`, `b1`, `b2`, those past its length being ignored (R309, R310). An `n16` is
`b2:b1` (R308). -/
def decode3 (op b1 b2 : Byte) : Instr :=
  if op = 0xCB#8 then cellAt cbMap b1 else cellAt (mainMap b1 (hilo b2 b1)) op

/-- Why a byte list is not the start of an instruction. -/
inductive DecodeError where
  /-- There is no byte. -/
  | noOpcode
  /-- The opcode's operand bytes, or the byte after the prefix, are not all there. -/
  | missingOperand (op : Byte)
deriving DecidableEq, Repr

/-- Decode the instruction at the head of a byte list; answers it and the bytes after it. -/
def decode : List Byte → Except DecodeError (Instr × List Byte)
  | [] => .error .noOpcode
  | op :: rest =>
    if rest.length + 1 < instrLength op then .error (.missingOperand op)
    else .ok (decode3 op (rest.getD 0 0x00#8) (rest.getD 1 0x00#8), rest.drop (instrLength op - 1))

/-- The bytes of an instruction, from the encodings of R400 to R586 and R340 (opcode_table.json's match and format). -/
def encode : Instr → List Byte
  | .prefixCb op2 => [0xCB#8, op2]
  | .ldBB => [0x40#8]
  | .ldBC => [0x41#8]
  | .ldBD => [0x42#8]
  | .ldBE => [0x43#8]
  | .ldBH => [0x44#8]
  | .ldBL => [0x45#8]
  | .ldBA => [0x47#8]
  | .ldCB => [0x48#8]
  | .ldCC => [0x49#8]
  | .ldCD => [0x4A#8]
  | .ldCE => [0x4B#8]
  | .ldCH => [0x4C#8]
  | .ldCL => [0x4D#8]
  | .ldCA => [0x4F#8]
  | .ldDB => [0x50#8]
  | .ldDC => [0x51#8]
  | .ldDD => [0x52#8]
  | .ldDE => [0x53#8]
  | .ldDH => [0x54#8]
  | .ldDL => [0x55#8]
  | .ldDA => [0x57#8]
  | .ldEB => [0x58#8]
  | .ldEC => [0x59#8]
  | .ldED => [0x5A#8]
  | .ldEE => [0x5B#8]
  | .ldEH => [0x5C#8]
  | .ldEL => [0x5D#8]
  | .ldEA => [0x5F#8]
  | .ldHB => [0x60#8]
  | .ldHC => [0x61#8]
  | .ldHD => [0x62#8]
  | .ldHE => [0x63#8]
  | .ldHH => [0x64#8]
  | .ldHL => [0x65#8]
  | .ldHA => [0x67#8]
  | .ldLB => [0x68#8]
  | .ldLC => [0x69#8]
  | .ldLD => [0x6A#8]
  | .ldLE => [0x6B#8]
  | .ldLH => [0x6C#8]
  | .ldLL => [0x6D#8]
  | .ldLA => [0x6F#8]
  | .ldAB => [0x78#8]
  | .ldAC => [0x79#8]
  | .ldAD => [0x7A#8]
  | .ldAE => [0x7B#8]
  | .ldAH => [0x7C#8]
  | .ldAL => [0x7D#8]
  | .ldAA => [0x7F#8]
  | .ldBN8 n => [0x06#8, n]
  | .ldCN8 n => [0x0E#8, n]
  | .ldDN8 n => [0x16#8, n]
  | .ldEN8 n => [0x1E#8, n]
  | .ldHN8 n => [0x26#8, n]
  | .ldLN8 n => [0x2E#8, n]
  | .ldAN8 n => [0x3E#8, n]
  | .ldBAtHl => [0x46#8]
  | .ldCAtHl => [0x4E#8]
  | .ldDAtHl => [0x56#8]
  | .ldEAtHl => [0x5E#8]
  | .ldHAtHl => [0x66#8]
  | .ldLAtHl => [0x6E#8]
  | .ldAAtHl => [0x7E#8]
  | .ldAtHlB => [0x70#8]
  | .ldAtHlC => [0x71#8]
  | .ldAtHlD => [0x72#8]
  | .ldAtHlE => [0x73#8]
  | .ldAtHlH => [0x74#8]
  | .ldAtHlL => [0x75#8]
  | .ldAtHlA => [0x77#8]
  | .ldAtHlN8 n => [0x36#8, n]
  | .ldAAtBc => [0x0A#8]
  | .ldAAtDe => [0x1A#8]
  | .ldAtBcA => [0x02#8]
  | .ldAtDeA => [0x12#8]
  | .ldAAtN16 n => [0xFA#8, lo n, hi n]
  | .ldAtN16A n => [0xEA#8, lo n, hi n]
  | .ldhAtN8A n => [0xE0#8, n]
  | .ldhAAtN8 n => [0xF0#8, n]
  | .ldAtCA => [0xE2#8]
  | .ldAAtC => [0xF2#8]
  | .ldAtHlIncA => [0x22#8]
  | .ldAtHlDecA => [0x32#8]
  | .ldAAtHlInc => [0x2A#8]
  | .ldAAtHlDec => [0x3A#8]
  | .ldBcN16 n => [0x01#8, lo n, hi n]
  | .ldDeN16 n => [0x11#8, lo n, hi n]
  | .ldHlN16 n => [0x21#8, lo n, hi n]
  | .ldSpN16 n => [0x31#8, lo n, hi n]
  | .ldAtN16Sp n => [0x08#8, lo n, hi n]
  | .ldSpHl => [0xF9#8]
  | .pushBc => [0xC5#8]
  | .pushDe => [0xD5#8]
  | .pushHl => [0xE5#8]
  | .pushAf => [0xF5#8]
  | .popBc => [0xC1#8]
  | .popDe => [0xD1#8]
  | .popHl => [0xE1#8]
  | .popAf => [0xF1#8]
  | .addAB => [0x80#8]
  | .addAC => [0x81#8]
  | .addAD => [0x82#8]
  | .addAE => [0x83#8]
  | .addAH => [0x84#8]
  | .addAL => [0x85#8]
  | .addAAtHl => [0x86#8]
  | .addAA => [0x87#8]
  | .addAN8 n => [0xC6#8, n]
  | .adcAB => [0x88#8]
  | .adcAC => [0x89#8]
  | .adcAD => [0x8A#8]
  | .adcAE => [0x8B#8]
  | .adcAH => [0x8C#8]
  | .adcAL => [0x8D#8]
  | .adcAAtHl => [0x8E#8]
  | .adcAA => [0x8F#8]
  | .adcAN8 n => [0xCE#8, n]
  | .subB => [0x90#8]
  | .subC => [0x91#8]
  | .subD => [0x92#8]
  | .subE => [0x93#8]
  | .subH => [0x94#8]
  | .subL => [0x95#8]
  | .subAtHl => [0x96#8]
  | .subA => [0x97#8]
  | .subN8 n => [0xD6#8, n]
  | .sbcAB => [0x98#8]
  | .sbcAC => [0x99#8]
  | .sbcAD => [0x9A#8]
  | .sbcAE => [0x9B#8]
  | .sbcAH => [0x9C#8]
  | .sbcAL => [0x9D#8]
  | .sbcAAtHl => [0x9E#8]
  | .sbcAA => [0x9F#8]
  | .sbcAN8 n => [0xDE#8, n]
  | .andB => [0xA0#8]
  | .andC => [0xA1#8]
  | .andD => [0xA2#8]
  | .andE => [0xA3#8]
  | .andH => [0xA4#8]
  | .andL => [0xA5#8]
  | .andAtHl => [0xA6#8]
  | .andA => [0xA7#8]
  | .andN8 n => [0xE6#8, n]
  | .xorB => [0xA8#8]
  | .xorC => [0xA9#8]
  | .xorD => [0xAA#8]
  | .xorE => [0xAB#8]
  | .xorH => [0xAC#8]
  | .xorL => [0xAD#8]
  | .xorAtHl => [0xAE#8]
  | .xorA => [0xAF#8]
  | .xorN8 n => [0xEE#8, n]
  | .orB => [0xB0#8]
  | .orC => [0xB1#8]
  | .orD => [0xB2#8]
  | .orE => [0xB3#8]
  | .orH => [0xB4#8]
  | .orL => [0xB5#8]
  | .orAtHl => [0xB6#8]
  | .orA => [0xB7#8]
  | .orN8 n => [0xF6#8, n]
  | .cpB => [0xB8#8]
  | .cpC => [0xB9#8]
  | .cpD => [0xBA#8]
  | .cpE => [0xBB#8]
  | .cpH => [0xBC#8]
  | .cpL => [0xBD#8]
  | .cpAtHl => [0xBE#8]
  | .cpA => [0xBF#8]
  | .cpN8 n => [0xFE#8, n]
  | .incB => [0x04#8]
  | .incC => [0x0C#8]
  | .incD => [0x14#8]
  | .incE => [0x1C#8]
  | .incH => [0x24#8]
  | .incL => [0x2C#8]
  | .incA => [0x3C#8]
  | .decB => [0x05#8]
  | .decC => [0x0D#8]
  | .decD => [0x15#8]
  | .decE => [0x1D#8]
  | .decH => [0x25#8]
  | .decL => [0x2D#8]
  | .decA => [0x3D#8]
  | .incAtHl => [0x34#8]
  | .decAtHl => [0x35#8]
  | .daa => [0x27#8]
  | .cpl => [0x2F#8]
  | .scf => [0x37#8]
  | .ccf => [0x3F#8]
  | .incBc => [0x03#8]
  | .incDe => [0x13#8]
  | .incHl => [0x23#8]
  | .incSp => [0x33#8]
  | .decBc => [0x0B#8]
  | .decDe => [0x1B#8]
  | .decHl => [0x2B#8]
  | .decSp => [0x3B#8]
  | .addHlBc => [0x09#8]
  | .addHlDe => [0x19#8]
  | .addHlHl => [0x29#8]
  | .addHlSp => [0x39#8]
  | .addSpE8 e => [0xE8#8, e]
  | .ldHlSpE8 e => [0xF8#8, e]
  | .jpN16 n => [0xC3#8, lo n, hi n]
  | .jpNzN16 n => [0xC2#8, lo n, hi n]
  | .jpZN16 n => [0xCA#8, lo n, hi n]
  | .jpNcN16 n => [0xD2#8, lo n, hi n]
  | .jpCN16 n => [0xDA#8, lo n, hi n]
  | .jpHl => [0xE9#8]
  | .jrE8 e => [0x18#8, e]
  | .jrNzE8 e => [0x20#8, e]
  | .jrZE8 e => [0x28#8, e]
  | .jrNcE8 e => [0x30#8, e]
  | .jrCE8 e => [0x38#8, e]
  | .callN16 n => [0xCD#8, lo n, hi n]
  | .callNzN16 n => [0xC4#8, lo n, hi n]
  | .callZN16 n => [0xCC#8, lo n, hi n]
  | .callNcN16 n => [0xD4#8, lo n, hi n]
  | .callCN16 n => [0xDC#8, lo n, hi n]
  | .ret => [0xC9#8]
  | .retNz => [0xC0#8]
  | .retZ => [0xC8#8]
  | .retNc => [0xD0#8]
  | .retC => [0xD8#8]
  | .reti => [0xD9#8]
  | .rst00 => [0xC7#8]
  | .rst08 => [0xCF#8]
  | .rst10 => [0xD7#8]
  | .rst18 => [0xDF#8]
  | .rst20 => [0xE7#8]
  | .rst28 => [0xEF#8]
  | .rst30 => [0xF7#8]
  | .rst38 => [0xFF#8]
  | .nop => [0x00#8]
  | .halt => [0x76#8]
  | .stop x => [0x10#8, x]
  | .ei => [0xFB#8]
  | .di => [0xF3#8]
  | .undefD3 => [0xD3#8]
  | .undefDB => [0xDB#8]
  | .undefDD => [0xDD#8]
  | .undefE3 => [0xE3#8]
  | .undefE4 => [0xE4#8]
  | .undefEB => [0xEB#8]
  | .undefEC => [0xEC#8]
  | .undefED => [0xED#8]
  | .undefF4 => [0xF4#8]
  | .undefFC => [0xFC#8]
  | .undefFD => [0xFD#8]
  | .rlca => [0x07#8]
  | .rrca => [0x0F#8]
  | .rla => [0x17#8]
  | .rra => [0x1F#8]
  | .rlcB => [0xCB#8, 0x00#8]
  | .rlcC => [0xCB#8, 0x01#8]
  | .rlcD => [0xCB#8, 0x02#8]
  | .rlcE => [0xCB#8, 0x03#8]
  | .rlcH => [0xCB#8, 0x04#8]
  | .rlcL => [0xCB#8, 0x05#8]
  | .rlcAtHl => [0xCB#8, 0x06#8]
  | .rlcA => [0xCB#8, 0x07#8]
  | .rrcB => [0xCB#8, 0x08#8]
  | .rrcC => [0xCB#8, 0x09#8]
  | .rrcD => [0xCB#8, 0x0A#8]
  | .rrcE => [0xCB#8, 0x0B#8]
  | .rrcH => [0xCB#8, 0x0C#8]
  | .rrcL => [0xCB#8, 0x0D#8]
  | .rrcAtHl => [0xCB#8, 0x0E#8]
  | .rrcA => [0xCB#8, 0x0F#8]
  | .rlB => [0xCB#8, 0x10#8]
  | .rlC => [0xCB#8, 0x11#8]
  | .rlD => [0xCB#8, 0x12#8]
  | .rlE => [0xCB#8, 0x13#8]
  | .rlH => [0xCB#8, 0x14#8]
  | .rlL => [0xCB#8, 0x15#8]
  | .rlAtHl => [0xCB#8, 0x16#8]
  | .rlA => [0xCB#8, 0x17#8]
  | .rrB => [0xCB#8, 0x18#8]
  | .rrC => [0xCB#8, 0x19#8]
  | .rrD => [0xCB#8, 0x1A#8]
  | .rrE => [0xCB#8, 0x1B#8]
  | .rrH => [0xCB#8, 0x1C#8]
  | .rrL => [0xCB#8, 0x1D#8]
  | .rrAtHl => [0xCB#8, 0x1E#8]
  | .rrA => [0xCB#8, 0x1F#8]
  | .slaB => [0xCB#8, 0x20#8]
  | .slaC => [0xCB#8, 0x21#8]
  | .slaD => [0xCB#8, 0x22#8]
  | .slaE => [0xCB#8, 0x23#8]
  | .slaH => [0xCB#8, 0x24#8]
  | .slaL => [0xCB#8, 0x25#8]
  | .slaAtHl => [0xCB#8, 0x26#8]
  | .slaA => [0xCB#8, 0x27#8]
  | .sraB => [0xCB#8, 0x28#8]
  | .sraC => [0xCB#8, 0x29#8]
  | .sraD => [0xCB#8, 0x2A#8]
  | .sraE => [0xCB#8, 0x2B#8]
  | .sraH => [0xCB#8, 0x2C#8]
  | .sraL => [0xCB#8, 0x2D#8]
  | .sraAtHl => [0xCB#8, 0x2E#8]
  | .sraA => [0xCB#8, 0x2F#8]
  | .swapB => [0xCB#8, 0x30#8]
  | .swapC => [0xCB#8, 0x31#8]
  | .swapD => [0xCB#8, 0x32#8]
  | .swapE => [0xCB#8, 0x33#8]
  | .swapH => [0xCB#8, 0x34#8]
  | .swapL => [0xCB#8, 0x35#8]
  | .swapAtHl => [0xCB#8, 0x36#8]
  | .swapA => [0xCB#8, 0x37#8]
  | .srlB => [0xCB#8, 0x38#8]
  | .srlC => [0xCB#8, 0x39#8]
  | .srlD => [0xCB#8, 0x3A#8]
  | .srlE => [0xCB#8, 0x3B#8]
  | .srlH => [0xCB#8, 0x3C#8]
  | .srlL => [0xCB#8, 0x3D#8]
  | .srlAtHl => [0xCB#8, 0x3E#8]
  | .srlA => [0xCB#8, 0x3F#8]
  | .bit0B => [0xCB#8, 0x40#8]
  | .bit0C => [0xCB#8, 0x41#8]
  | .bit0D => [0xCB#8, 0x42#8]
  | .bit0E => [0xCB#8, 0x43#8]
  | .bit0H => [0xCB#8, 0x44#8]
  | .bit0L => [0xCB#8, 0x45#8]
  | .bit0AtHl => [0xCB#8, 0x46#8]
  | .bit0A => [0xCB#8, 0x47#8]
  | .bit1B => [0xCB#8, 0x48#8]
  | .bit1C => [0xCB#8, 0x49#8]
  | .bit1D => [0xCB#8, 0x4A#8]
  | .bit1E => [0xCB#8, 0x4B#8]
  | .bit1H => [0xCB#8, 0x4C#8]
  | .bit1L => [0xCB#8, 0x4D#8]
  | .bit1AtHl => [0xCB#8, 0x4E#8]
  | .bit1A => [0xCB#8, 0x4F#8]
  | .bit2B => [0xCB#8, 0x50#8]
  | .bit2C => [0xCB#8, 0x51#8]
  | .bit2D => [0xCB#8, 0x52#8]
  | .bit2E => [0xCB#8, 0x53#8]
  | .bit2H => [0xCB#8, 0x54#8]
  | .bit2L => [0xCB#8, 0x55#8]
  | .bit2AtHl => [0xCB#8, 0x56#8]
  | .bit2A => [0xCB#8, 0x57#8]
  | .bit3B => [0xCB#8, 0x58#8]
  | .bit3C => [0xCB#8, 0x59#8]
  | .bit3D => [0xCB#8, 0x5A#8]
  | .bit3E => [0xCB#8, 0x5B#8]
  | .bit3H => [0xCB#8, 0x5C#8]
  | .bit3L => [0xCB#8, 0x5D#8]
  | .bit3AtHl => [0xCB#8, 0x5E#8]
  | .bit3A => [0xCB#8, 0x5F#8]
  | .bit4B => [0xCB#8, 0x60#8]
  | .bit4C => [0xCB#8, 0x61#8]
  | .bit4D => [0xCB#8, 0x62#8]
  | .bit4E => [0xCB#8, 0x63#8]
  | .bit4H => [0xCB#8, 0x64#8]
  | .bit4L => [0xCB#8, 0x65#8]
  | .bit4AtHl => [0xCB#8, 0x66#8]
  | .bit4A => [0xCB#8, 0x67#8]
  | .bit5B => [0xCB#8, 0x68#8]
  | .bit5C => [0xCB#8, 0x69#8]
  | .bit5D => [0xCB#8, 0x6A#8]
  | .bit5E => [0xCB#8, 0x6B#8]
  | .bit5H => [0xCB#8, 0x6C#8]
  | .bit5L => [0xCB#8, 0x6D#8]
  | .bit5AtHl => [0xCB#8, 0x6E#8]
  | .bit5A => [0xCB#8, 0x6F#8]
  | .bit6B => [0xCB#8, 0x70#8]
  | .bit6C => [0xCB#8, 0x71#8]
  | .bit6D => [0xCB#8, 0x72#8]
  | .bit6E => [0xCB#8, 0x73#8]
  | .bit6H => [0xCB#8, 0x74#8]
  | .bit6L => [0xCB#8, 0x75#8]
  | .bit6AtHl => [0xCB#8, 0x76#8]
  | .bit6A => [0xCB#8, 0x77#8]
  | .bit7B => [0xCB#8, 0x78#8]
  | .bit7C => [0xCB#8, 0x79#8]
  | .bit7D => [0xCB#8, 0x7A#8]
  | .bit7E => [0xCB#8, 0x7B#8]
  | .bit7H => [0xCB#8, 0x7C#8]
  | .bit7L => [0xCB#8, 0x7D#8]
  | .bit7AtHl => [0xCB#8, 0x7E#8]
  | .bit7A => [0xCB#8, 0x7F#8]
  | .res0B => [0xCB#8, 0x80#8]
  | .res0C => [0xCB#8, 0x81#8]
  | .res0D => [0xCB#8, 0x82#8]
  | .res0E => [0xCB#8, 0x83#8]
  | .res0H => [0xCB#8, 0x84#8]
  | .res0L => [0xCB#8, 0x85#8]
  | .res0AtHl => [0xCB#8, 0x86#8]
  | .res0A => [0xCB#8, 0x87#8]
  | .res1B => [0xCB#8, 0x88#8]
  | .res1C => [0xCB#8, 0x89#8]
  | .res1D => [0xCB#8, 0x8A#8]
  | .res1E => [0xCB#8, 0x8B#8]
  | .res1H => [0xCB#8, 0x8C#8]
  | .res1L => [0xCB#8, 0x8D#8]
  | .res1AtHl => [0xCB#8, 0x8E#8]
  | .res1A => [0xCB#8, 0x8F#8]
  | .res2B => [0xCB#8, 0x90#8]
  | .res2C => [0xCB#8, 0x91#8]
  | .res2D => [0xCB#8, 0x92#8]
  | .res2E => [0xCB#8, 0x93#8]
  | .res2H => [0xCB#8, 0x94#8]
  | .res2L => [0xCB#8, 0x95#8]
  | .res2AtHl => [0xCB#8, 0x96#8]
  | .res2A => [0xCB#8, 0x97#8]
  | .res3B => [0xCB#8, 0x98#8]
  | .res3C => [0xCB#8, 0x99#8]
  | .res3D => [0xCB#8, 0x9A#8]
  | .res3E => [0xCB#8, 0x9B#8]
  | .res3H => [0xCB#8, 0x9C#8]
  | .res3L => [0xCB#8, 0x9D#8]
  | .res3AtHl => [0xCB#8, 0x9E#8]
  | .res3A => [0xCB#8, 0x9F#8]
  | .res4B => [0xCB#8, 0xA0#8]
  | .res4C => [0xCB#8, 0xA1#8]
  | .res4D => [0xCB#8, 0xA2#8]
  | .res4E => [0xCB#8, 0xA3#8]
  | .res4H => [0xCB#8, 0xA4#8]
  | .res4L => [0xCB#8, 0xA5#8]
  | .res4AtHl => [0xCB#8, 0xA6#8]
  | .res4A => [0xCB#8, 0xA7#8]
  | .res5B => [0xCB#8, 0xA8#8]
  | .res5C => [0xCB#8, 0xA9#8]
  | .res5D => [0xCB#8, 0xAA#8]
  | .res5E => [0xCB#8, 0xAB#8]
  | .res5H => [0xCB#8, 0xAC#8]
  | .res5L => [0xCB#8, 0xAD#8]
  | .res5AtHl => [0xCB#8, 0xAE#8]
  | .res5A => [0xCB#8, 0xAF#8]
  | .res6B => [0xCB#8, 0xB0#8]
  | .res6C => [0xCB#8, 0xB1#8]
  | .res6D => [0xCB#8, 0xB2#8]
  | .res6E => [0xCB#8, 0xB3#8]
  | .res6H => [0xCB#8, 0xB4#8]
  | .res6L => [0xCB#8, 0xB5#8]
  | .res6AtHl => [0xCB#8, 0xB6#8]
  | .res6A => [0xCB#8, 0xB7#8]
  | .res7B => [0xCB#8, 0xB8#8]
  | .res7C => [0xCB#8, 0xB9#8]
  | .res7D => [0xCB#8, 0xBA#8]
  | .res7E => [0xCB#8, 0xBB#8]
  | .res7H => [0xCB#8, 0xBC#8]
  | .res7L => [0xCB#8, 0xBD#8]
  | .res7AtHl => [0xCB#8, 0xBE#8]
  | .res7A => [0xCB#8, 0xBF#8]
  | .set0B => [0xCB#8, 0xC0#8]
  | .set0C => [0xCB#8, 0xC1#8]
  | .set0D => [0xCB#8, 0xC2#8]
  | .set0E => [0xCB#8, 0xC3#8]
  | .set0H => [0xCB#8, 0xC4#8]
  | .set0L => [0xCB#8, 0xC5#8]
  | .set0AtHl => [0xCB#8, 0xC6#8]
  | .set0A => [0xCB#8, 0xC7#8]
  | .set1B => [0xCB#8, 0xC8#8]
  | .set1C => [0xCB#8, 0xC9#8]
  | .set1D => [0xCB#8, 0xCA#8]
  | .set1E => [0xCB#8, 0xCB#8]
  | .set1H => [0xCB#8, 0xCC#8]
  | .set1L => [0xCB#8, 0xCD#8]
  | .set1AtHl => [0xCB#8, 0xCE#8]
  | .set1A => [0xCB#8, 0xCF#8]
  | .set2B => [0xCB#8, 0xD0#8]
  | .set2C => [0xCB#8, 0xD1#8]
  | .set2D => [0xCB#8, 0xD2#8]
  | .set2E => [0xCB#8, 0xD3#8]
  | .set2H => [0xCB#8, 0xD4#8]
  | .set2L => [0xCB#8, 0xD5#8]
  | .set2AtHl => [0xCB#8, 0xD6#8]
  | .set2A => [0xCB#8, 0xD7#8]
  | .set3B => [0xCB#8, 0xD8#8]
  | .set3C => [0xCB#8, 0xD9#8]
  | .set3D => [0xCB#8, 0xDA#8]
  | .set3E => [0xCB#8, 0xDB#8]
  | .set3H => [0xCB#8, 0xDC#8]
  | .set3L => [0xCB#8, 0xDD#8]
  | .set3AtHl => [0xCB#8, 0xDE#8]
  | .set3A => [0xCB#8, 0xDF#8]
  | .set4B => [0xCB#8, 0xE0#8]
  | .set4C => [0xCB#8, 0xE1#8]
  | .set4D => [0xCB#8, 0xE2#8]
  | .set4E => [0xCB#8, 0xE3#8]
  | .set4H => [0xCB#8, 0xE4#8]
  | .set4L => [0xCB#8, 0xE5#8]
  | .set4AtHl => [0xCB#8, 0xE6#8]
  | .set4A => [0xCB#8, 0xE7#8]
  | .set5B => [0xCB#8, 0xE8#8]
  | .set5C => [0xCB#8, 0xE9#8]
  | .set5D => [0xCB#8, 0xEA#8]
  | .set5E => [0xCB#8, 0xEB#8]
  | .set5H => [0xCB#8, 0xEC#8]
  | .set5L => [0xCB#8, 0xED#8]
  | .set5AtHl => [0xCB#8, 0xEE#8]
  | .set5A => [0xCB#8, 0xEF#8]
  | .set6B => [0xCB#8, 0xF0#8]
  | .set6C => [0xCB#8, 0xF1#8]
  | .set6D => [0xCB#8, 0xF2#8]
  | .set6E => [0xCB#8, 0xF3#8]
  | .set6H => [0xCB#8, 0xF4#8]
  | .set6L => [0xCB#8, 0xF5#8]
  | .set6AtHl => [0xCB#8, 0xF6#8]
  | .set6A => [0xCB#8, 0xF7#8]
  | .set7B => [0xCB#8, 0xF8#8]
  | .set7C => [0xCB#8, 0xF9#8]
  | .set7D => [0xCB#8, 0xFA#8]
  | .set7E => [0xCB#8, 0xFB#8]
  | .set7H => [0xCB#8, 0xFC#8]
  | .set7L => [0xCB#8, 0xFD#8]
  | .set7AtHl => [0xCB#8, 0xFE#8]
  | .set7A => [0xCB#8, 0xFF#8]

/-- The three bytes that stand for the table word `w` of `nbits` bits. The table writes a one-byte row's opcode in bits
7-0 and a prefixed row as 0xCBxx, the prefix in bits 15-8 although it is the first byte; every other word is read first
byte lowest (log 17). -/
def tableBytes (nbits w : Nat) : Byte × Byte × Byte :=
  let b0 := BitVec.ofNat 8 w
  let b1 := BitVec.ofNat 8 (w / 256)
  let b2 := BitVec.ofNat 8 (w / 65536)
  if nbits = 16 ∧ b1 = 0xCB#8 then (0xCB#8, b0, 0x00#8)
  else (b0, if nbits ≤ 8 then 0x00#8 else b1, if nbits ≤ 16 then 0x00#8 else b2)

/-- The instruction the decoder reads from the table word `w` of `nbits` bits, the bytes above being 0. -/
def decodeTableWord (nbits w : Nat) : Option Instr :=
  let b := tableBytes nbits w
  match decode [b.1, b.2.1, b.2.2] with
  | .ok (i, _) => some i
  | .error _ => none

end Sys2Proof
end

