-- ==== Sys2Proof/Config.lean ====
section
/-! DEFINITION. Sys2Proof/Config.lean: the fixed parameters of R10, the parameters the spec leaves open (R11), and the
one free function of the model. -/

namespace Sys2Proof.Config

/-- T-cycles per second (R10). -/
def clockHz : Nat := 4194304

/-- T-cycles per M-cycle (R10, R17). -/
def tPerM : Nat := 4

/-- T-cycles per scanline, scanlines per frame, visible scanlines (R9, R601). -/
def dotsPerLine : Nat := 456
def linesPerFrame : Nat := 154
def visibleLines : Nat := 144

/-- T-cycles of object scan (R602). -/
def oamScanDots : Nat := 80

/-- Visible pixels per line (R10). -/
def screenWidth : Nat := 160

/-- Frame sequencer period in T-cycles (R10, R710). -/
def fsPeriod : Nat := 8192

/-- M-cycles of an OAM DMA stall and bytes it copies (R190). -/
def dmaLength : Nat := 160

/-- What a byte of RAM or of the image that nothing has written reads as in a state whose memory lists nothing:
the model's stand-in for the draw INIT_MEM (R903, D46). DESIGN CHOICE, unsafe: log 7. -/
def unlistedByte : Byte := 0x00#8

/-- One object attribute entry of R101, with its OAM index. -/
structure Obj where
  index : Nat
  y : Byte
  x : Byte
  tile : Byte
  attr : Byte
deriving DecidableEq, Repr

/-- The line context MODE3_LEN may depend on (R603): LY, SCX, LCDC, WX, WY and the objects selected for the line. -/
structure LineCtx where
  ly : Byte
  scx : Byte
  lcdc : Byte
  wx : Byte
  wy : Byte
  objs : List Obj
deriving DecidableEq, Repr

/-- The free MODE3_LEN less 172: any function of the line context, so that `172 + ` its value lies in 172..289
(R11, R603, D17). It has no body: nothing can be proved of its value but that bound. -/
opaque freeMode3Extra : LineCtx → Fin 118

/-- Which MODE3_LEN a machine has: one length for every line (the spec's default is `fixed 0`, 172 T-cycles), or
the free function. Log 6. -/
inductive Mode3Model where
  | fixed (extra : Fin 118)
  | free
deriving DecidableEq, Repr

/-- MBC1_MODEL (R11, R247, D26). -/
inductive Mbc1Model where
  | eitherOr
  | dmg
deriving DecidableEq, Repr

/-- CHECKSUM_POLICY (R11, R227, D30). -/
inductive ChecksumPolicy where
  | fatal
  | warn
deriving DecidableEq, Repr

/-- The parameters of R11 that the running machine reads. They are plain data held in the state and no step changes
them, so a statement about every state holds for every value of every parameter (log 5). -/
structure Params where
  sentinel : Byte
  mode3 : Mode3Model
  sampleRate : Nat
  mbc1Model : Mbc1Model
  checksumPolicy : ChecksumPolicy
  profileDuration : Option Nat
deriving DecidableEq, Repr

/-- The spec's own defaults of R11. -/
def Params.default : Params :=
  { sentinel := 0xFF#8, mode3 := .fixed 0, sampleRate := 44100, mbc1Model := .eitherOr,
    checksumPolicy := .fatal, profileDuration := none }

end Sys2Proof.Config
end

