-- ==== Sys2Proof/Machine/State.lean ====
section
/-! DEFINITION. Sys2Proof/Machine/State.lean: everything the spec gives the machine, as plain data, the reasons a step
stops, and the state right after reset. -/

namespace Sys2Proof.Machine

open Sys2Proof.Config

/-- A memory array of R100: pairs of an index into the array and a byte, indexes strictly rising, no byte equal to
what an unlisted index reads as (`Config.unlistedByte`, log 7). -/
abbrev Mem := List Host.Cell

/-- The four flags of F (R9, R55); bits 3-0 of F are no storage. -/
structure Flags where
  z : Bool
  n : Bool
  h : Bool
  c : Bool
deriving DecidableEq, Repr

/-- `UndefinedOpcode(op, addr)` of R340 and R802. -/
structure UndefinedOpcode where
  op : Byte
  addr : Word
deriving DecidableEq, Repr

/-- The processor (R50 to R55). `cycles` is R15's count for the current step and `opAddr` the `addr` of R800 (log 4). -/
structure Cpu where
  a : Byte
  f : Flags
  b : Byte
  c : Byte
  d : Byte
  e : Byte
  h : Byte
  l : Byte
  sp : Word
  pc : Word
  ime : Bool
  imeDelay : Nat
  halted : Bool
  stopped : Bool
  haltBug : Bool
  dmaStall : Nat
  fatal : Option UndefinedOpcode
  cycles : Nat
  opAddr : Word
deriving DecidableEq, Repr

/-- Timer and divider (R75 to R78, R125): `div` is the 16-bit `div_counter`, `tac` is TAC[2:0]. -/
structure Timer where
  div : BitVec 16
  tima : Byte
  tma : Byte
  tac : BitVec 3
deriving DecidableEq, Repr

/-- Serial port (R73, R74, R126): `start` is SC[7] and `internal` SC[0]. -/
structure Serial where
  sb : Byte
  start : Bool
  internal : Bool
  bitsLeft : Nat
  timer : Nat
  out : List Byte
deriving DecidableEq, Repr

/-- The four modes of R602. -/
inductive Mode where
  | hblank
  | vblank
  | oamScan
  | transfer
deriving DecidableEq, Repr

/-- A 2-bit shade (R627). -/
abbrev Shade := BitVec 2

/-- A frame buffer: rows of shades, row 0 at the top (R127). -/
abbrev Frame := List (List Shade)

/-- Pixel pipeline registers and internal state (R80 to R88, R127); `statSel` is STAT[6:3], `dma` the register at
0xFF46 (R85). -/
structure Ppu where
  lcdc : Byte
  statSel : BitVec 4
  scy : Byte
  scx : Byte
  ly : Byte
  lyc : Byte
  dma : Byte
  bgp : Byte
  obp0 : Byte
  obp1 : Byte
  wy : Byte
  wx : Byte
  dot : Nat
  mode : Mode
  mode3End : Nat
  coincidence : Bool
  windowLine : Byte
  fb : Frame
  framesOut : List Frame
deriving DecidableEq, Repr

/-- The stored bytes of NR10 to NR51 (R90). -/
structure SoundRegs where
  nr10 : Byte
  nr11 : Byte
  nr12 : Byte
  nr13 : Byte
  nr14 : Byte
  nr21 : Byte
  nr22 : Byte
  nr23 : Byte
  nr24 : Byte
  nr30 : Byte
  nr31 : Byte
  nr32 : Byte
  nr33 : Byte
  nr34 : Byte
  nr41 : Byte
  nr42 : Byte
  nr43 : Byte
  nr44 : Byte
  nr50 : Byte
  nr51 : Byte
deriving DecidableEq, Repr

/-- Channel 1 or 2 (R128). -/
structure Square where
  on : Bool
  length : Nat
  freqTimer : Nat
  dutyPos : BitVec 3
  volume : BitVec 4
  envTimer : BitVec 3
deriving DecidableEq, Repr

/-- Channel 1's sweep unit (R128, R713). -/
structure Sweep where
  timer : Nat
  enabled : Bool
  shadow : BitVec 11
deriving DecidableEq, Repr

/-- Channel 3 (R128). -/
structure WaveChannel where
  on : Bool
  length : Nat
  freqTimer : Nat
  wavePos : BitVec 5
deriving DecidableEq, Repr

/-- Channel 4 (R128). -/
structure NoiseChannel where
  on : Bool
  length : Nat
  freqTimer : Nat
  volume : BitVec 4
  envTimer : BitVec 3
  lfsr : BitVec 15
deriving DecidableEq, Repr

/-- Sound synthesizer (R90, R91, R128); `power` is NR52 bit 7, `wave` is wave RAM. -/
structure Apu where
  power : Bool
  regs : SoundRegs
  ch1 : Square
  sweep : Sweep
  ch2 : Square
  ch3 : WaveChannel
  ch4 : NoiseChannel
  fsCounter : Nat
  fsStep : Nat
  sampleT : Nat
  samplesOut : List (Nat × Nat)
  wave : Mem
deriving DecidableEq, Repr

/-- Variant A, MBC1 (R245). -/
structure Mbc1 where
  ramEnable : Bool
  bank1 : BitVec 5
  bank2 : BitVec 2
  mode : Bool
deriving DecidableEq, Repr

/-- Variant B, MBC2 (R250). -/
structure Mbc2 where
  ramEnable : Bool
  romBank : BitVec 4
deriving DecidableEq, Repr

/-- The clock registers of R260; `dh` keeps bits 0, 6 and 7 only. -/
structure ClockRegs where
  s : BitVec 6
  m : BitVec 6
  hr : BitVec 5
  dl : Byte
  dh : Byte
deriving DecidableEq, Repr

/-- The real-time clock of a variant C type that has one (R260): live and latched registers, T-cycles into the second. -/
structure Clock where
  live : ClockRegs
  latched : ClockRegs
  sub : Nat
deriving DecidableEq, Repr

/-- Variant C, MBC3 (R260); `clock` is `none` for a type without a clock. -/
structure Mbc3 where
  ramEnable : Bool
  romBank : BitVec 7
  sel : BitVec 4
  latchPrev : Byte
  clock : Option Clock
deriving DecidableEq, Repr

/-- Variant D, MBC5 (R270); `rumble` for the types 0x1C to 0x1E (R271). -/
structure Mbc5 where
  ramEnable : Bool
  romBank : BitVec 9
  ramBank : BitVec 4
  rumble : Bool
deriving DecidableEq, Repr

/-- The controller variants, "a closed tagged-variant type" (R230). -/
inductive Controller where
  | none
  | a (r : Mbc1)
  | b (r : Mbc2)
  | c (r : Mbc3)
  | d (r : Mbc5)
deriving DecidableEq, Repr

/-- The cartridge (R129, R240): image, NROM, NRAM, RAMSIZE (0 when no external RAM is present), battery flag,
controller and external RAM. -/
structure Cart where
  rom : Mem
  nrom : Nat
  nram : Nat
  ramSize : Nat
  battery : Bool
  ctrl : Controller
  eram : Mem
deriving DecidableEq, Repr

/-- Why a run that hit no fatal condition ended (R803, R881). -/
inductive StopKind where
  | host
  | profile
deriving DecidableEq, Repr

/-- The whole machine. -/
structure State where
  cpu : Cpu
  ie : Byte
  intf : BitVec 5
  p1 : BitVec 2
  timer : Timer
  serial : Serial
  ppu : Ppu
  apu : Apu
  cart : Cart
  vram : Mem
  wram : Mem
  oam : Mem
  hram : Mem
  buttons : Byte
  buttonsPrev : Byte
  stopRequested : Bool
  ended : Option StopKind
  tCycles : Nat
  params : Params
deriving DecidableEq, Repr

/-- Why a step stops. Both are safe: the spec gives the machine no further step there (R802, R881). -/
inductive Fault where
  /-- Raised by `step` in a state whose `fatal` an undefined opcode has set (R802: "the run ends"). Safe. -/
  | undefinedOpcode (op : Byte) (addr : Word)
  /-- Raised by `step` in a state whose run has ended by a host stop or by PROFILE_DURATION (R881 b, c). Safe. -/
  | runEnded (k : StopKind)
deriving DecidableEq, Repr

/-- Why an instruction has no meaning. -/
inductive Refusal where
  /-- Raised by an arm of `exec` that gives its instruction no meaning; no arm does. Safe. -/
  | notModelled (mnemonic : String)
deriving DecidableEq, Repr

/-- What an instruction's meaning and a step answer. -/
abbrev Result := Host.Outcome State Fault Refusal

/-- R135, R901. `cycles` and `opAddr`: log 4. -/
def Cpu.reset : Cpu :=
  { a := 0x01#8, f := { z := true, n := false, h := true, c := true },
    b := 0x00#8, c := 0x13#8, d := 0x00#8, e := 0xD8#8, h := 0x01#8, l := 0x4D#8,
    sp := 0xFFFE#16, pc := 0x0100#16, ime := false, imeDelay := 0, halted := false, stopped := false,
    haltBug := false, dmaStall := 0, fatal := none, cycles := 0, opAddr := 0x0000#16 }

/-- R136 with DIV_INIT at its default 0xABCC. -/
def Timer.reset : Timer := { div := 0xABCC#16, tima := 0x00#8, tma := 0x00#8, tac := 0#3 }

/-- R126, R136. -/
def Serial.reset : Serial :=
  { sb := 0x00#8, start := false, internal := false, bitsLeft := 0, timer := 0, out := [] }

/-- A frame buffer of shade 0 (R137). -/
def Frame.blank : Frame := List.replicate 144 (List.replicate 160 0#2)

/-- R136, R137, R904. The values of OBP0 and OBP1, draws of the spec, are log 8's. -/
def Ppu.reset : Ppu :=
  { lcdc := 0x91#8, statSel := 0#4, scy := 0x00#8, scx := 0x00#8, ly := 0x00#8, lyc := 0x00#8,
    dma := 0xFF#8, bgp := 0xFC#8, obp0 := 0x00#8, obp1 := 0x00#8, wy := 0x00#8, wx := 0x00#8,
    dot := 0, mode := .oamScan, mode3End := 252, coincidence := true, windowLine := 0x00#8,
    fb := Frame.blank, framesOut := [] }

/-- The reset column of R90. -/
def SoundRegs.reset : SoundRegs :=
  { nr10 := 0x80#8, nr11 := 0xBF#8, nr12 := 0xF3#8, nr13 := 0xFF#8, nr14 := 0xBF#8,
    nr21 := 0x3F#8, nr22 := 0x00#8, nr23 := 0xFF#8, nr24 := 0xBF#8,
    nr30 := 0x7F#8, nr31 := 0xFF#8, nr32 := 0x9F#8, nr33 := 0xFF#8, nr34 := 0xBF#8,
    nr41 := 0xFF#8, nr42 := 0x00#8, nr43 := 0x00#8, nr44 := 0xBF#8, nr50 := 0x77#8, nr51 := 0xF3#8 }

/-- R137, R905. The frequency timers hold the reload of the reset periods (R705, R707, R708); the envelope timers and
the sweep unit are log 9's. -/
def Apu.reset : Apu :=
  { power := true, regs := SoundRegs.reset,
    ch1 := { on := false, length := 0, freqTimer := 4, dutyPos := 0#3, volume := 0#4, envTimer := 0#3 },
    sweep := { timer := 0, enabled := false, shadow := 0#11 },
    ch2 := { on := false, length := 0, freqTimer := 4, dutyPos := 0#3, volume := 0#4, envTimer := 0#3 },
    ch3 := { on := false, length := 0, freqTimer := 2, wavePos := 0#5 },
    ch4 := { on := false, length := 0, freqTimer := 8, volume := 0#4, envTimer := 0#3, lfsr := 0x7FFF#15 },
    fsCounter := 0, fsStep := 0, sampleT := 0, samplesOut := [], wave := [] }

/-- A cartridge without controller, RAM or battery around an image of two banks that lists no byte: what stands in the
slot at `State.reset` until a program is loaded. DESIGN CHOICE: log 10. -/
def Cart.blank : Cart :=
  { rom := [], nrom := 2, nram := 0, ramSize := 0, battery := false, ctrl := .none, eram := [] }

/-- The machine right after reset (R900 to R906), with the blank cartridge in the slot (log 10), nothing listed in any
memory (log 7) and the spec's default parameters (log 5). -/
def State.reset : State :=
  { cpu := Cpu.reset, ie := 0x00#8, intf := 0x01#5, p1 := 0#2, timer := Timer.reset, serial := Serial.reset,
    ppu := Ppu.reset, apu := Apu.reset, cart := Cart.blank, vram := [], wram := [], oam := [], hram := [],
    buttons := 0x00#8, buttonsPrev := 0x00#8, stopRequested := false, ended := none, tCycles := 0,
    params := Params.default }

end Sys2Proof.Machine
end

