-- ==== Sys2Proof/Machine/Memory.lean ====
section
/-! DEFINITION. Sys2Proof/Machine/Memory.lean: reading and writing one byte of a memory array, its canonical form, and
loading a run of bytes (R100). -/

namespace Sys2Proof.Machine

open Sys2Proof.Config

/-- The byte at index `i`; what is not listed reads as `Config.unlistedByte` (log 7). -/
def Mem.read : Mem → Nat → Byte
  | [], _ => unlistedByte
  | (k, w) :: m, i => if i = k then w else Mem.read m i

/-- Store `v` at index `i`, keeping the canonical form: storing the unlisted byte removes the entry. -/
def Mem.write : Mem → Nat → Byte → Mem
  | [], i, v => if v = unlistedByte then [] else [(i, v)]
  | (k, w) :: m, i, v =>
    if i < k then
      if v = unlistedByte then (k, w) :: m else (i, v) :: (k, w) :: m
    else if i = k then
      if v = unlistedByte then m else (i, v) :: m
    else (k, w) :: Mem.write m i v

/-- Every listed index is at least `b`, they rise strictly, and no listed byte is the unlisted one. -/
def Mem.wfFrom : Nat → Mem → Bool
  | _, [] => true
  | b, (k, w) :: m => decide (b ≤ k) && decide (w ≠ unlistedByte) && Mem.wfFrom (k + 1) m

/-- The canonical form. -/
def Mem.wf (m : Mem) : Bool := Mem.wfFrom 0 m

/-- Every listed index is below `n`, the size of the array. -/
def Mem.below (n : Nat) (m : Mem) : Bool := m.all fun c => decide (c.1 < n)

/-- Store a run of bytes from index `i` up. -/
def Mem.writeAll : Mem → Nat → List Byte → Mem
  | m, _, [] => m
  | m, i, v :: vs => Mem.writeAll (Mem.write m i v) (i + 1) vs

/-- An array that holds `vs` from index `i` up and lists nothing else, built in one pass. -/
def Mem.ofBytesFrom : Nat → List Byte → Mem
  | _, [] => []
  | i, v :: vs => if v = unlistedByte then Mem.ofBytesFrom (i + 1) vs else (i, v) :: Mem.ofBytesFrom (i + 1) vs

end Sys2Proof.Machine
end

