-- ==== Sys2Proof/Machine/Cartridge.lean ====
section
/-! DEFINITION. Sys2Proof/Machine/Cartridge.lean: the four operations of R230 on every controller variant, and the
real-time clock (25_cartridge.md). Addresses are those of the processor's map. -/

namespace Sys2Proof.Machine

open Sys2Proof.Config

/-- `ROMB(b, a)`'s index into the image (R230). -/
def Cart.romIndex (c : Cart) (bank a : Nat) : Nat := bank % c.nrom * 0x4000 + a % 0x4000

/-- `ERAMB(b, a)`'s index into the external RAM (R230). -/
def Cart.eramIndex (c : Cart) (bank a : Nat) : Nat := (bank % c.nram * 0x2000 + (a - 0xA000)) % c.ramSize

/-- External RAM is present: its size is not 0 (R225, R231, R240; log 15). -/
def Cart.hasRam (c : Cart) : Bool := c.ramSize != 0

/-- `BANK1'` of R245: 0 selects bank 1. -/
def Mbc1.bank1' (r : Mbc1) : Nat := if r.bank1 = 0#5 then 1 else r.bank1.toNat

/-- The bank at 0x0000-0x3FFF (R240, R247, R253, R262, R272). -/
def Controller.lowBank (model : Mbc1Model) : Controller → Nat
  | .a r =>
    match model with
    | .eitherOr => 0
    | .dmg => if r.mode then r.bank2.toNat * 32 else 0
  | _ => 0

/-- The bank at 0x4000-0x7FFF, the "active ROM bank index" of R232 (R240, R247, R253, R262, R272). -/
def Controller.highBank (model : Mbc1Model) : Controller → Nat
  | .none => 1
  | .a r =>
    match model with
    | .eitherOr => if r.mode then r.bank1' else r.bank2.toNat * 32 + r.bank1'
    | .dmg => r.bank2.toNat * 32 + r.bank1'
  | .b r => if r.romBank = 0#4 then 1 else r.romBank.toNat
  | .c r => if r.romBank = 0#7 then 1 else r.romBank.toNat
  | .d r => r.romBank.toNat

/-- The index into the image that address `a` in 0x0000-0x7FFF shows. -/
def Cart.romAt (model : Mbc1Model) (c : Cart) (a : Nat) : Nat :=
  if a < 0x4000 then c.romIndex (c.ctrl.lowBank model) a else c.romIndex (c.ctrl.highBank model) a

/-- `read_rom(a)` (R230). -/
def Cart.readRom (model : Mbc1Model) (c : Cart) (a : Nat) : Byte := c.rom.read (c.romAt model a)

/-- R246. -/
def Mbc1.writeControl (r : Mbc1) (a : Nat) (v : Byte) : Mbc1 :=
  if a < 0x2000 then { r with ramEnable := field v 3 0 == 0xA }
  else if a < 0x4000 then { r with bank1 := v.extractLsb' 0 5 }
  else if a < 0x6000 then { r with bank2 := v.extractLsb' 0 2 }
  else { r with mode := v.getLsbD 0 }

/-- R251. -/
def Mbc2.writeControl (r : Mbc2) (a : Nat) (v : Byte) : Mbc2 :=
  if a < 0x4000 then
    if a.testBit 8 then { r with romBank := v.extractLsb' 0 4 } else { r with ramEnable := field v 3 0 == 0xA }
  else r

/-- The latch copy of R261. -/
def Clock.latch (k : Clock) : Clock := { k with latched := k.live }

/-- R261. -/
def Mbc3.writeControl (r : Mbc3) (a : Nat) (v : Byte) : Mbc3 :=
  if a < 0x2000 then { r with ramEnable := field v 3 0 == 0xA }
  else if a < 0x4000 then { r with romBank := v.extractLsb' 0 7 }
  else if a < 0x6000 then { r with sel := v.extractLsb' 0 4 }
  else
    { r with
      clock := if r.latchPrev = 0x00#8 ∧ v = 0x01#8 then r.clock.map Clock.latch else r.clock
      latchPrev := v }

/-- R271; for a rumble type bit 3 drives the motor and is no bank bit (D40). -/
def Mbc5.writeControl (r : Mbc5) (a : Nat) (v : Byte) : Mbc5 :=
  if a < 0x2000 then { r with ramEnable := field v 3 0 == 0xA }
  else if a < 0x3000 then { r with romBank := r.romBank.extractLsb' 8 1 ++ v }
  else if a < 0x4000 then { r with romBank := v.extractLsb' 0 1 ++ r.romBank.extractLsb' 0 8 }
  else if a < 0x6000 then
    { r with ramBank := if r.rumble then (v.extractLsb' 0 3).setWidth 4 else v.extractLsb' 0 4 }
  else r

/-- `write_control` of each variant (R230, R240). -/
def Controller.writeControl (ctrl : Controller) (a : Nat) (v : Byte) : Controller :=
  match ctrl with
  | .none => .none
  | .a r => .a (r.writeControl a v)
  | .b r => .b (r.writeControl a v)
  | .c r => .c (r.writeControl a v)
  | .d r => .d (r.writeControl a v)

/-- `write_control(a, v)`: a bank-controller command; the image never changes (R153, R230). -/
def Cart.writeControl (c : Cart) (a : Nat) (v : Byte) : Cart := { c with ctrl := c.ctrl.writeControl a v }

/-- What `read_ram` and `write_ram` reach at address `a`: a cell of the external RAM, a clock register of variant C by
its selector 0x8 to 0xC, or nothing (R231, R240, R248, R252, R263, R273). -/
inductive RamTarget where
  | cell (i : Nat)
  | nibble (i : Nat)
  | clock (k : Clock) (sel : Nat)
  | nothing
deriving DecidableEq, Repr

/-- The cell of bank `bank` at `a` when `open_` holds and external RAM is present, else nothing (R231). -/
def Cart.ramCell (c : Cart) (open_ : Bool) (bank a : Nat) : RamTarget :=
  if open_ && c.hasRam then .cell (c.eramIndex bank a) else .nothing

/-- What R263 reaches on variant C. -/
def Cart.mbc3Target (c : Cart) (r : Mbc3) (a : Nat) : RamTarget :=
  if r.sel.toNat < 4 then c.ramCell r.ramEnable r.sel.toNat a
  else if r.ramEnable && (decide (8 ≤ r.sel.toNat) && decide (r.sel.toNat ≤ 12)) then
    match r.clock with
    | some k => .clock k r.sel.toNat
    | none => .nothing
  else .nothing

/-- What an access to 0xA000-0xBFFF reaches. -/
def Cart.ramTarget (c : Cart) (a : Nat) : RamTarget :=
  match c.ctrl with
  | .none => c.ramCell true 0 a
  | .a r => c.ramCell r.ramEnable (if r.mode then r.bank2.toNat else 0) a
  | .b r => if r.ramEnable then .nibble ((a - 0xA000) % 512) else .nothing
  | .c r => c.mbc3Target r a
  | .d r => c.ramCell r.ramEnable r.ramBank.toNat a

/-- The clock register with selector 0x8 to 0xC; unused bits read 0 (R260, R263). -/
def ClockRegs.get (k : ClockRegs) (sel : Nat) : Byte :=
  if sel = 8 then k.s.setWidth 8
  else if sel = 9 then k.m.setWidth 8
  else if sel = 10 then k.hr.setWidth 8
  else if sel = 11 then k.dl
  else k.dh

/-- Write the clock register with selector 0x8 to 0xC, masked to its bits (R260, R263). -/
def ClockRegs.set (k : ClockRegs) (sel : Nat) (v : Byte) : ClockRegs :=
  if sel = 8 then { k with s := v.extractLsb' 0 6 }
  else if sel = 9 then { k with m := v.extractLsb' 0 6 }
  else if sel = 10 then { k with hr := v.extractLsb' 0 5 }
  else if sel = 11 then { k with dl := v }
  else { k with dh := v &&& 0xC1#8 }

/-- Write a live clock register; writing the seconds restarts the second (R263). -/
def Clock.set (k : Clock) (sel : Nat) (v : Byte) : Clock :=
  { k with live := k.live.set sel v, sub := if sel = 8 then 0 else k.sub }

/-- Replace variant C's clock. -/
def Controller.setClock (ctrl : Controller) (k : Clock) : Controller :=
  match ctrl with
  | .none => .none
  | .a r => .a r
  | .b r => .b r
  | .c r => .c { r with clock := r.clock.map fun _ => k }
  | .d r => .d r

/-- `read_ram(a)` (R230). -/
def Cart.readRam (sentinel : Byte) (c : Cart) (a : Nat) : Byte :=
  match c.ramTarget a with
  | .cell i => c.eram.read i
  | .nibble i => 0xF0#8 ||| c.eram.read i
  | .clock k sel => k.latched.get sel
  | .nothing => sentinel

/-- `write_ram(a, v)` (R230). -/
def Cart.writeRam (c : Cart) (a : Nat) (v : Byte) : Cart :=
  match c.ramTarget a with
  | .cell i => { c with eram := c.eram.write i v }
  | .nibble i => { c with eram := c.eram.write i (v &&& 0x0F#8) }
  | .clock k sel => { c with ctrl := c.ctrl.setClock (k.set sel v) }
  | .nothing => c

/-- The 9-bit day counter `DH[0] : DL` plus one, with the carry bit DH[7] set when it passes 511 (R264). -/
def ClockRegs.nextDay (k : ClockRegs) : ClockRegs :=
  if k.dl ≠ 0xFF#8 then { k with dl := k.dl + 1#8 }
  else if k.dh.getLsbD 0 then { k with dl := 0x00#8, dh := (k.dh &&& 0xFE#8) ||| 0x80#8 }
  else { k with dl := 0x00#8, dh := k.dh ||| 0x01#8 }

/-- One second of R264; a field that passes its maximum without reaching its limit wraps with no carry. -/
def ClockRegs.tickSecond (k : ClockRegs) : ClockRegs :=
  let k := { k with s := k.s + 1#6 }
  if k.s ≠ 60#6 then k else
  let k := { k with s := 0#6, m := k.m + 1#6 }
  if k.m ≠ 60#6 then k else
  let k := { k with m := 0#6, hr := k.hr + 1#5 }
  if k.hr ≠ 24#5 then k else
  { k with hr := 0#5 }.nextDay

/-- One T-cycle of the clock (R264), nothing while DH[6] halts it. -/
def Clock.tick (k : Clock) : Clock :=
  if k.live.dh.getLsbD 6 then k
  else if k.sub + 1 = clockHz then { k with live := k.live.tickSecond, sub := 0 }
  else { k with sub := k.sub + 1 }

/-- `rtc_tick()` (R861): R264 for a cartridge with a clock, else nothing. -/
def Controller.tick : Controller → Controller
  | .none => .none
  | .a r => .a r
  | .b r => .b r
  | .c r => .c { r with clock := r.clock.map Clock.tick }
  | .d r => .d r

/-- `rtc_tick()` on the cartridge. -/
def Cart.tick (c : Cart) : Cart := { c with ctrl := c.ctrl.tick }

end Sys2Proof.Machine
end

