-- ==== Sys2Proof/Machine/Render.lean ====
section
/-! DEFINITION. Sys2Proof/Machine/Render.lean: rendering one line (R620 to R627) from the registers, VRAM and OAM of the
instant mode 3 is entered. -/

namespace Sys2Proof.Machine

open Sys2Proof.Config

/-- The colour index at row `row`, column `col` of the tile whose bytes begin at VRAM offset `base` (R102, R623). -/
def tilePixel (vram : Mem) (base row col : Nat) : Nat :=
  let l := vram.read (base + 2 * row)
  let h := vram.read (base + 2 * row + 1)
  bit (h.getLsbD (7 - col)) * 2 + bit (l.getLsbD (7 - col))

/-- `base(t)` of R623 as a VRAM offset: unsigned from 0x8000, or signed from 0x9000. -/
def tileBase (lcdc t : Byte) : Nat :=
  if lcdc.getLsbD 4 then 16 * t.toNat else ((0x1000 : Int) + 16 * t.toInt).toNat

/-- The VRAM offset of the tile map a control bit selects (R80): 0x9800 or 0x9C00. -/
def mapBase (high : Bool) : Nat := if high then 0x1C00 else 0x1800

/-- The colour index at column `px`, row `py` of the plane a tile map describes (R621, R622). -/
def mapPixel (vram : Mem) (lcdc : Byte) (map px py : Nat) : Nat :=
  let t := vram.read (map + py / 8 * 32 + px / 8)
  tilePixel vram (tileBase lcdc t) (py % 8) (px % 8)

/-- Background pixel `x` of line `y` (R621). -/
def Ppu.bgPixel (p : Ppu) (vram : Mem) (y x : Nat) : Nat :=
  mapPixel vram p.lcdc (mapBase (p.lcdc.getLsbD 3)) ((x + p.scx.toNat) % 256) ((y + p.scy.toNat) % 256)

/-- The window is drawn on line `y` (R622). -/
def Ppu.windowDrawn (p : Ppu) (y : Nat) : Bool :=
  p.lcdc.getLsbD 0 && p.lcdc.getLsbD 5 && decide (p.wy.toNat ≤ y) && decide (p.wx.toNat ≤ 166)

/-- The background or window colour index of pixel `x` on line `y` (R621, R622, R624). -/
def Ppu.backPixel (p : Ppu) (vram : Mem) (y x : Nat) : Nat :=
  if !p.lcdc.getLsbD 0 then 0
  else if p.windowDrawn y && decide (p.wx.toNat ≤ x + 7) then
    mapPixel vram p.lcdc (mapBase (p.lcdc.getLsbD 6)) (x + 7 - p.wx.toNat) p.windowLine.toNat
  else p.bgPixel vram y x

/-- OAM entry `i` (R101). -/
def objAt (oam : Mem) (i : Nat) : Obj :=
  { index := i, y := oam.read (4 * i), x := oam.read (4 * i + 1), tile := oam.read (4 * i + 2),
    attr := oam.read (4 * i + 3) }

/-- `h` of R625. -/
def Ppu.objHeight (p : Ppu) : Nat := if p.lcdc.getLsbD 2 then 16 else 8

/-- `OAM_Y - 16 <= y < OAM_Y - 16 + h` over the integers (R625; log 16). -/
def objCovers (o : Obj) (h y : Nat) : Bool := decide (o.y.toNat ≤ y + 16) && decide (y + 16 < o.y.toNat + h)

/-- The objects of line `y`: the first ten in index order whose rows cover it (R625). -/
def Ppu.objects (p : Ppu) (oam : Mem) (y : Nat) : List Obj :=
  (((List.range 40).map (objAt oam)).filter fun o => objCovers o p.objHeight y).take 10

/-- Insert an object behind those that come first in R626's order, increasing X and then increasing index; inserting
in index order keeps ties in index order. -/
def insertObj (o : Obj) : List Obj → List Obj
  | [] => [o]
  | q :: qs => if o.x.toNat < q.x.toNat then o :: q :: qs else q :: insertObj o qs

/-- Objects in the order R626 tries them. -/
def sortObjs (os : List Obj) : List Obj := os.foldl (fun acc o => insertObj o acc) []

/-- `OAM_X - 8 <= x < OAM_X` over the integers (R626; log 16). -/
def objSpans (o : Obj) (x : Nat) : Bool := decide (o.x.toNat ≤ x + 8) && decide (x < o.x.toNat)

/-- The object's colour index at pixel `x` of line `y` (R626). -/
def objPixel (o : Obj) (vram : Mem) (h y x : Nat) : Nat :=
  let row := y + 16 - o.y.toNat
  let row := if o.attr.getLsbD 6 then h - 1 - row else row
  let col := x + 8 - o.x.toNat
  let col := if o.attr.getLsbD 5 then 7 - col else col
  let t := if h = 16 then o.tile &&& 0xFE#8 else o.tile
  tilePixel vram (16 * t.toNat) row col

/-- The object that decides pixel `x`, with its colour index: the first that spans `x` and is not transparent there
(R626). -/
def decidingObj (vram : Mem) (h y x : Nat) : List Obj → Option (Obj × Nat)
  | [] => none
  | o :: os =>
    if objSpans o x && objPixel o vram h y x != 0 then some (o, objPixel o vram h y x) else decidingObj vram h y x os

/-- Entry `idx` of a palette register: `(pal >> 2*idx) & 3` (R86, R627). -/
def shadeOf (pal : Byte) (idx : Nat) : Shade := (pal >>> (2 * idx)).extractLsb' 0 2

/-- The background shade of R627, or 0 under R624. -/
def Ppu.backShade (p : Ppu) (idx : Nat) : Shade := if p.lcdc.getLsbD 0 then shadeOf p.bgp idx else 0#2

/-- The shade of pixel `x` on line `y`, `objs` being the line's objects in R626's order. -/
def Ppu.pixel (p : Ppu) (vram : Mem) (objs : List Obj) (y x : Nat) : Shade :=
  let back := p.backPixel vram y x
  if p.lcdc.getLsbD 1 then
    match decidingObj vram p.objHeight y x objs with
    | none => p.backShade back
    | some (o, idx) =>
      if o.attr.getLsbD 7 && back != 0 then p.backShade back
      else shadeOf (if o.attr.getLsbD 4 then p.obp1 else p.obp0) idx
  else p.backShade back

/-- The 160 shades of line `y`. -/
def Ppu.line (p : Ppu) (vram oam : Mem) (y : Nat) : List Shade :=
  let objs := sortObjs (p.objects oam y)
  (List.range screenWidth).map (p.pixel vram objs y)

/-- `render_line(LY)` (R620): the line is stored in the frame buffer, and the window's line counter advances when the
window was drawn (modulo 256: log 14). -/
def Ppu.renderLine (p : Ppu) (vram oam : Mem) : Ppu :=
  { p with
    fb := p.fb.set p.ly.toNat (p.line vram oam p.ly.toNat)
    windowLine := if p.windowDrawn p.ly.toNat then p.windowLine + 1#8 else p.windowLine }

end Sys2Proof.Machine
end

