-- ==== Sys2Proof/Machine/PixelPipeline.lean ====
section
/-! DEFINITION. Sys2Proof/Machine/PixelPipeline.lean: timing, modes, LCD enable and the compare register (R600 to R616).
Each operation answers the pipeline and the interrupt requests it makes, as a mask over IF. -/

namespace Sys2Proof.Machine

open Sys2Proof.Config

/-- IF bit 0, the VBlank request (R810). -/
def irqVBlank : BitVec 5 := 0x01#5
/-- IF bit 1, the STAT request (R810). -/
def irqStat : BitVec 5 := 0x02#5
/-- IF bit 2, the timer request (R810). -/
def irqTimer : BitVec 5 := 0x04#5
/-- IF bit 3, the serial request (R810). -/
def irqSerial : BitVec 5 := 0x08#5
/-- IF bit 4, the joypad request (R810). -/
def irqJoypad : BitVec 5 := 0x10#5

/-- A request that is made when `c` holds. -/
def irqIf (c : Bool) (m : BitVec 5) : BitVec 5 := if c then m else 0#5

/-- The number STAT bits 1-0 show for a mode (R602). -/
def Mode.number : Mode → Byte
  | .hblank => 0x00#8
  | .vblank => 0x01#8
  | .oamScan => 0x02#8
  | .transfer => 0x03#8

/-- LCDC[7] (R80). -/
def Ppu.lcdOn (p : Ppu) : Bool := p.lcdc.getLsbD 7

/-- `blocked` of R154. -/
def Ppu.blocked (p : Ppu) : Bool := p.lcdOn && p.mode == .transfer

/-- The STAT read value (R607). -/
def Ppu.readStat (p : Ppu) : Byte :=
  0x80#8 ||| (p.statSel.setWidth 8 <<< 3) ||| (if p.coincidence then 0x04#8 else 0x00#8) ||| p.mode.number

/-- `update_coincidence()` (R615). -/
def Ppu.updateCoincidence (p : Ppu) : Ppu × BitVec 5 :=
  let c := p.ly == p.lyc
  ({ p with coincidence := c }, irqIf (c && !p.coincidence && p.statSel.getLsbD 3 && p.lcdOn) irqStat)

/-- MODE3_LEN of a line context, 172 to 289 (R603; log 6). -/
def mode3Len (q : Params) (ctx : LineCtx) : Nat :=
  match q.mode3 with
  | .fixed extra => 172 + extra.val
  | .free => 172 + (freeMode3Extra ctx).val

/-- The line context of R603. -/
def Ppu.lineCtx (p : Ppu) (oam : Mem) : LineCtx :=
  { ly := p.ly, scx := p.scx, lcdc := p.lcdc, wx := p.wx, wy := p.wy, objs := p.objects oam p.ly.toNat }

/-- `enter(2)` (R605). -/
def Ppu.enterOamScan (p : Ppu) : Ppu × BitVec 5 :=
  ({ p with mode := .oamScan }, irqIf (p.statSel.getLsbD 2) irqStat)

/-- `enter(3)` (R605): the line is rendered and the length of mode 3 fixed. -/
def Ppu.enterTransfer (q : Params) (vram oam : Mem) (p : Ppu) : Ppu × BitVec 5 :=
  ({ p.renderLine vram oam with mode := .transfer, mode3End := oamScanDots + mode3Len q (p.lineCtx oam) }, 0#5)

/-- `enter(0)` (R605). -/
def Ppu.enterHBlank (p : Ppu) : Ppu × BitVec 5 :=
  ({ p with mode := .hblank }, irqIf (p.statSel.getLsbD 0) irqStat)

/-- `enter(1)` (R605, R606): the frame buffer is published. -/
def Ppu.enterVBlank (p : Ppu) : Ppu × BitVec 5 :=
  ({ p with mode := .vblank, framesOut := p.framesOut ++ [p.fb] },
    irqVBlank ||| irqIf (p.statSel.getLsbD 1) irqStat)

/-- The mode change of R604, if any, after the dot counter has moved. -/
def Ppu.modeChange (q : Params) (vram oam : Mem) (p : Ppu) : Ppu × BitVec 5 :=
  if p.ly.toNat < visibleLines ∧ p.dot = 0 then p.enterOamScan
  else if p.ly.toNat < visibleLines ∧ p.dot = oamScanDots then p.enterTransfer q vram oam
  else if p.ly.toNat < visibleLines ∧ p.dot = p.mode3End ∧ p.mode = .transfer then p.enterHBlank
  else if p.ly.toNat = visibleLines ∧ p.dot = 0 then p.enterVBlank
  else (p, 0#5)

/-- The dot counter's step of R604: one dot on, or the first dot of the next line with the coincidence flag
recomputed. -/
def Ppu.advanceDot (p : Ppu) : Ppu × BitVec 5 :=
  if p.dot + 1 = dotsPerLine then
    let ly := BitVec.ofNat 8 ((p.ly.toNat + 1) % linesPerFrame)
    { p with dot := 0, ly := ly, windowLine := if ly = 0#8 then 0#8 else p.windowLine }.updateCoincidence
  else ({ p with dot := p.dot + 1 }, 0#5)

/-- `ppu_tick()` (R604). -/
def Ppu.tick (q : Params) (vram oam : Mem) (p : Ppu) : Ppu × BitVec 5 :=
  if p.lcdOn then
    let (p1, r1) := p.advanceDot
    let (p2, r2) := p1.modeChange q vram oam
    (p2, r1 ||| r2)
  else (p, 0#5)

/-- A write of `v` to LCDC (R610). -/
def Ppu.writeLcdc (p : Ppu) (v : Byte) : Ppu × BitVec 5 :=
  if p.lcdOn && !v.getLsbD 7 then
    ({ p with lcdc := v, ly := 0#8, dot := 0, mode := .hblank, coincidence := (0#8 : Byte) == p.lyc }, 0#5)
  else if !p.lcdOn && v.getLsbD 7 then
    { p with lcdc := v, ly := 0#8, dot := 0, mode := .oamScan }.updateCoincidence
  else ({ p with lcdc := v }, 0#5)

/-- A write of `v` to LYC (R616). -/
def Ppu.writeLyc (p : Ppu) (v : Byte) : Ppu × BitVec 5 := { p with lyc := v }.updateCoincidence

end Sys2Proof.Machine
end

