-- ==== Sys2Proof/Machine/SerialPort.lean ====
section
/-! DEFINITION. Sys2Proof/Machine/SerialPort.lean: the unconnected serial port (R845 to R847). -/

namespace Sys2Proof.Machine

/-- `0x7E | SC` (R74, R162). -/
def Serial.readSc (p : Serial) : Byte :=
  0x7E#8 ||| (if p.start then 0x80#8 else 0x00#8) ||| (if p.internal then 0x01#8 else 0x00#8)

/-- A write of `v` to SC (R845). With the external clock selected no transfer progresses, so one that was running is
dropped too (log 24). -/
def Serial.writeSc (p : Serial) (v : Byte) : Serial :=
  let p := { p with start := v.getLsbD 7, internal := v.getLsbD 0 }
  if p.start && p.internal then { p with out := p.out ++ [p.sb], bitsLeft := 8, timer := 512 }
  else { p with bitsLeft := 0 }

/-- One T-cycle (R846): the port and whether it requests the serial interrupt. -/
def Serial.tick (p : Serial) : Serial × Bool :=
  if p.bitsLeft = 0 then (p, false)
  else if p.timer - 1 ≠ 0 then ({ p with timer := p.timer - 1 }, false)
  else
    let p := { p with sb := (p.sb <<< 1) ||| 0x01#8, bitsLeft := p.bitsLeft - 1, timer := 0 }
    if p.bitsLeft = 0 then ({ p with start := false }, true) else ({ p with timer := 512 }, false)

end Sys2Proof.Machine
end

