-- ==== Sys2Proof/Machine/Sound.lean ====
section
/-! DEFINITION. Sys2Proof/Machine/Sound.lean: the four-channel sound synthesizer (55_sound.md). -/

namespace Sys2Proof.Machine

open Sys2Proof.Config

/-- The sound registers of R90 by name. -/
inductive SoundReg where
  | nr10 | nr11 | nr12 | nr13 | nr14
  | nr21 | nr22 | nr23 | nr24
  | nr30 | nr31 | nr32 | nr33 | nr34
  | nr41 | nr42 | nr43 | nr44
  | nr50 | nr51 | nr52
deriving DecidableEq, Repr

/-- The mask column of R90. -/
def SoundReg.mask : SoundReg → Byte
  | .nr10 => 0x80#8 | .nr11 => 0x3F#8 | .nr12 => 0x00#8 | .nr13 => 0xFF#8 | .nr14 => 0xBF#8
  | .nr21 => 0x3F#8 | .nr22 => 0x00#8 | .nr23 => 0xFF#8 | .nr24 => 0xBF#8
  | .nr30 => 0x7F#8 | .nr31 => 0xFF#8 | .nr32 => 0x9F#8 | .nr33 => 0xFF#8 | .nr34 => 0xBF#8
  | .nr41 => 0xFF#8 | .nr42 => 0x00#8 | .nr43 => 0x00#8 | .nr44 => 0xBF#8
  | .nr50 => 0x00#8 | .nr51 => 0x00#8 | .nr52 => 0x70#8

/-- The stored byte of NR10 to NR51; NR52 is no stored byte (its power bit is `Apu.power`). -/
def SoundRegs.get (g : SoundRegs) : SoundReg → Byte
  | .nr10 => g.nr10 | .nr11 => g.nr11 | .nr12 => g.nr12 | .nr13 => g.nr13 | .nr14 => g.nr14
  | .nr21 => g.nr21 | .nr22 => g.nr22 | .nr23 => g.nr23 | .nr24 => g.nr24
  | .nr30 => g.nr30 | .nr31 => g.nr31 | .nr32 => g.nr32 | .nr33 => g.nr33 | .nr34 => g.nr34
  | .nr41 => g.nr41 | .nr42 => g.nr42 | .nr43 => g.nr43 | .nr44 => g.nr44
  | .nr50 => g.nr50 | .nr51 => g.nr51 | .nr52 => 0x00#8

/-- Store a byte in NR10 to NR51. -/
def SoundRegs.set (g : SoundRegs) (v : Byte) : SoundReg → SoundRegs
  | .nr10 => { g with nr10 := v } | .nr11 => { g with nr11 := v } | .nr12 => { g with nr12 := v }
  | .nr13 => { g with nr13 := v } | .nr14 => { g with nr14 := v }
  | .nr21 => { g with nr21 := v } | .nr22 => { g with nr22 := v }
  | .nr23 => { g with nr23 := v } | .nr24 => { g with nr24 := v }
  | .nr30 => { g with nr30 := v } | .nr31 => { g with nr31 := v } | .nr32 => { g with nr32 := v }
  | .nr33 => { g with nr33 := v } | .nr34 => { g with nr34 := v }
  | .nr41 => { g with nr41 := v } | .nr42 => { g with nr42 := v } | .nr43 => { g with nr43 := v }
  | .nr44 => { g with nr44 := v } | .nr50 => { g with nr50 := v } | .nr51 => { g with nr51 := v }
  | .nr52 => g

/-- Every one of NR10 to NR51 at 0, what clearing NR52 bit 7 leaves (R736). -/
def SoundRegs.zero : SoundRegs :=
  { nr10 := 0#8, nr11 := 0#8, nr12 := 0#8, nr13 := 0#8, nr14 := 0#8, nr21 := 0#8, nr22 := 0#8, nr23 := 0#8,
    nr24 := 0#8, nr30 := 0#8, nr31 := 0#8, nr32 := 0#8, nr33 := 0#8, nr34 := 0#8, nr41 := 0#8, nr42 := 0#8,
    nr43 := 0#8, nr44 := 0#8, nr50 := 0#8, nr51 := 0#8 }

/-- An 11-bit period from its low byte and the register with its high bits (R700 to R702). -/
def periodOf (high low : Byte) : BitVec 11 := high.extractLsb' 0 3 ++ low

/-- P1 (R700). -/
def SoundRegs.period1 (g : SoundRegs) : BitVec 11 := periodOf g.nr14 g.nr13
/-- P2 (R701). -/
def SoundRegs.period2 (g : SoundRegs) : BitVec 11 := periodOf g.nr24 g.nr23
/-- P3 (R702). -/
def SoundRegs.period3 (g : SoundRegs) : BitVec 11 := periodOf g.nr34 g.nr33

/-- The DAC of an envelope channel is on (R704). -/
def dacOn (nrx2 : Byte) : Bool := field nrx2 7 3 != 0

/-- The reload of a square channel's timer (R705). -/
def squareReload (period : BitVec 11) : Nat := (2048 - period.toNat) * 4
/-- The reload of the wave channel's timer (R707). -/
def waveReload (period : BitVec 11) : Nat := (2048 - period.toNat) * 2
/-- `D(r)` of R708. -/
def noiseDivisor (r : Nat) : Nat := if r = 0 then 8 else 16 * r
/-- The reload of the noise channel's timer (R708). -/
def noiseReload (nr43 : Byte) : Nat := noiseDivisor (field nr43 2 0) * 2 ^ field nr43 7 4

/-- One T-cycle of a square channel's frequency timer (R705). -/
def Square.tick (period : BitVec 11) (c : Square) : Square :=
  if c.on then
    if c.freqTimer - 1 = 0 then { c with freqTimer := squareReload period, dutyPos := c.dutyPos + 1#3 }
    else { c with freqTimer := c.freqTimer - 1 }
  else c

/-- One T-cycle of the wave channel's timer (R707). -/
def WaveChannel.tick (period : BitVec 11) (c : WaveChannel) : WaveChannel :=
  if c.on then
    if c.freqTimer - 1 = 0 then { c with freqTimer := waveReload period, wavePos := c.wavePos + 1#5 }
    else { c with freqTimer := c.freqTimer - 1 }
  else c

/-- `lfsr_step()` (R708), `narrow` being NR43[3]. -/
def lfsrStep (narrow : Bool) (r : BitVec 15) : BitVec 15 :=
  let x : BitVec 15 := if r.getLsbD 0 != r.getLsbD 1 then 1#15 else 0#15
  let r := (r >>> 1) ||| (x <<< 14)
  if narrow then (r &&& ~~~0x40#15) ||| (x <<< 6) else r

/-- One T-cycle of the noise channel's timer (R708). -/
def NoiseChannel.tick (nr43 : Byte) (c : NoiseChannel) : NoiseChannel :=
  if c.on then
    if c.freqTimer - 1 = 0 then
      { c with freqTimer := noiseReload nr43, lfsr := lfsrStep (nr43.getLsbD 3) c.lfsr }
    else { c with freqTimer := c.freqTimer - 1 }
  else c

/-- `DUTY[duty][pos]` (R706), position 0 the leftmost bit of the pattern. -/
def dutyBit (duty : Nat) (pos : BitVec 3) : Bool :=
  let pattern : Byte :=
    if duty = 0 then 0b00000001#8 else if duty = 1 then 0b10000001#8 else if duty = 2 then 0b10000111#8
    else 0b01111110#8
  pattern.getLsbD (7 - pos.toNat)

/-- Output of a square channel (R706). -/
def Square.output (nrx1 : Byte) (c : Square) : Nat :=
  if c.on && dutyBit (field nrx1 7 6) c.dutyPos then c.volume.toNat else 0

/-- The 4-bit sample of wave RAM at a position (R91, R707). -/
def waveSample (wave : Mem) (pos : Nat) : Nat :=
  if pos % 2 = 0 then field (wave.read (pos / 2)) 7 4 else field (wave.read (pos / 2)) 3 0

/-- The shift of R707 for NR32[6:5]. -/
def waveShift (level : Nat) : Nat := if level = 0 then 4 else if level = 1 then 0 else if level = 2 then 1 else 2

/-- Output of the wave channel (R707). -/
def WaveChannel.output (nr32 : Byte) (wave : Mem) (c : WaveChannel) : Nat :=
  if c.on then waveSample wave c.wavePos.toNat / 2 ^ waveShift (field nr32 6 5) else 0

/-- Output of the noise channel (R708). -/
def NoiseChannel.output (c : NoiseChannel) : Nat := if c.on && !c.lfsr.getLsbD 0 then c.volume.toNat else 0

/-- A length clock of one channel (R711): the new length and whether the channel stays on. -/
def lengthClock (nrx4 : Byte) (length : Nat) (on : Bool) : Nat × Bool :=
  if nrx4.getLsbD 6 && decide (0 < length) then (length - 1, on && length - 1 != 0) else (length, on)

/-- The length clocks of all four channels (R711). -/
def Apu.clockLengths (a : Apu) : Apu :=
  let r1 := lengthClock a.regs.nr14 a.ch1.length a.ch1.on
  let r2 := lengthClock a.regs.nr24 a.ch2.length a.ch2.on
  let r3 := lengthClock a.regs.nr34 a.ch3.length a.ch3.on
  let r4 := lengthClock a.regs.nr44 a.ch4.length a.ch4.on
  { a with
    ch1 := { a.ch1 with length := r1.1, on := r1.2 }
    ch2 := { a.ch2 with length := r2.1, on := r2.2 }
    ch3 := { a.ch3 with length := r3.1, on := r3.2 }
    ch4 := { a.ch4 with length := r4.1, on := r4.2 } }

/-- An envelope clock of one channel (R712): the new volume and envelope timer. The timer counts modulo 8 (log 12). -/
def envelopeClock (nrx2 : Byte) (on : Bool) (volume : BitVec 4) (timer : BitVec 3) : BitVec 4 × BitVec 3 :=
  let pace : BitVec 3 := nrx2.extractLsb' 0 3
  if on && pace != 0#3 then
    if timer - 1#3 = 0#3 then
      let volume :=
        if nrx2.getLsbD 3 then (if volume.toNat < 15 then volume + 1#4 else volume)
        else (if 0 < volume.toNat then volume - 1#4 else volume)
      (volume, pace)
    else (volume, timer - 1#3)
  else (volume, timer)

/-- The envelope clocks of channels 1, 2 and 4 (R712). -/
def Apu.clockEnvelopes (a : Apu) : Apu :=
  let r1 := envelopeClock a.regs.nr12 a.ch1.on a.ch1.volume a.ch1.envTimer
  let r2 := envelopeClock a.regs.nr22 a.ch2.on a.ch2.volume a.ch2.envTimer
  let r4 := envelopeClock a.regs.nr42 a.ch4.on a.ch4.volume a.ch4.envTimer
  { a with
    ch1 := { a.ch1 with volume := r1.1, envTimer := r1.2 }
    ch2 := { a.ch2 with volume := r2.1, envTimer := r2.2 }
    ch4 := { a.ch4 with volume := r4.1, envTimer := r4.2 } }

/-- The `p` of `sweep_calc()` (R713), as an exact integer. -/
def sweepTarget (nr10 : Byte) (shadow : BitVec 11) : Nat :=
  let d := shadow.toNat / 2 ^ field nr10 2 0
  if nr10.getLsbD 3 then shadow.toNat - d else shadow.toNat + d

/-- `sweep_calc()`'s effect (R713): a target above 2047 turns channel 1 off. -/
def Apu.sweepCheck (a : Apu) : Apu :=
  if 2047 < sweepTarget a.regs.nr10 a.sweep.shadow then { a with ch1 := { a.ch1 with on := false } } else a

/-- The reload of the sweep timer (R713). -/
def sweepReload (nr10 : Byte) : Nat := if field nr10 6 4 = 0 then 8 else field nr10 6 4

/-- Write the swept period back (R713): the shadow, NR13 and NR14's low bits. -/
def Apu.writeSweep (a : Apu) (p : BitVec 11) : Apu :=
  { a with
    sweep := { a.sweep with shadow := p }
    regs := { a.regs with nr13 := p.extractLsb' 0 8, nr14 := a.regs.nr14.extractLsb' 3 5 ++ p.extractLsb' 8 3 } }

/-- The recomputation of R713 when the sweep timer runs out. -/
def Apu.sweepStep (a : Apu) : Apu :=
  if a.sweep.enabled && field a.regs.nr10 6 4 != 0 then
    let p := sweepTarget a.regs.nr10 a.sweep.shadow
    let a := a.sweepCheck
    if p ≤ 2047 ∧ field a.regs.nr10 2 0 ≠ 0 then (a.writeSweep (BitVec.ofNat 11 p)).sweepCheck else a
  else a

/-- The sweep clock (R713); the timer does not go below 0 (log 13). It runs, and may write NR13 and NR14, whether or not
channel 1 is on: R713 read as it stands beside R704's "its timers do not run" (log 30). -/
def Apu.clockSweep (a : Apu) : Apu :=
  if a.sweep.timer - 1 = 0 then
    { a with sweep := { a.sweep with timer := sweepReload a.regs.nr10 } }.sweepStep
  else { a with sweep := { a.sweep with timer := a.sweep.timer - 1 } }

/-- `fs_clock(k)` (R710): lengths on even steps, sweep on 2 and 6, envelopes on 7. -/
def Apu.fsClock (a : Apu) (k : Nat) : Apu :=
  let a := if k % 2 = 0 then a.clockLengths else a
  let a := if k = 2 ∨ k = 6 then a.clockSweep else a
  if k = 7 then a.clockEnvelopes else a

/-- One T-cycle of the frame sequencer (R710). -/
def Apu.tickSequencer (a : Apu) : Apu :=
  if a.fsCounter + 1 = fsPeriod then
    { a.fsClock a.fsStep with fsCounter := 0, fsStep := (a.fsStep + 1) % 8 }
  else { a with fsCounter := a.fsCounter + 1 }

/-- One T-cycle of the four frequency timers (R705, R707, R708). -/
def Apu.tickChannels (a : Apu) : Apu :=
  { a with
    ch1 := a.ch1.tick a.regs.period1
    ch2 := a.ch2.tick a.regs.period2
    ch3 := a.ch3.tick a.regs.period3
    ch4 := a.ch4.tick a.regs.nr43 }

/-- The four channel outputs in order. -/
def Apu.outputs (a : Apu) : List Nat :=
  [a.ch1.output a.regs.nr11, a.ch2.output a.regs.nr21, a.ch3.output a.regs.nr32 a.wave, a.ch4.output]

/-- The sum of the outputs whose bit is set in a 4-bit panning field that starts at bit `at_` of NR51 (R720). -/
def panned (nr51 : Byte) (at_ : Nat) : Nat → List Nat → Nat
  | _, [] => 0
  | i, o :: os => (if nr51.getLsbD (at_ + i) then o else 0) + panned nr51 at_ (i + 1) os

/-- The sample pair (left, right) of R720. -/
def Apu.sample (a : Apu) : Nat × Nat :=
  if a.power then
    ((field a.regs.nr50 6 4 + 1) * panned a.regs.nr51 4 0 a.outputs,
      (field a.regs.nr50 2 0 + 1) * panned a.regs.nr51 0 0 a.outputs)
  else (0, 0)

/-- One T-cycle of the sample clock (R721). -/
def Apu.tickSample (rate : Nat) (a : Apu) : Apu :=
  { a with
    samplesOut :=
      if a.sampleT * rate / clockHz < (a.sampleT + 1) * rate / clockHz then a.samplesOut ++ [a.sample]
      else a.samplesOut
    sampleT := (a.sampleT + 1) % clockHz }

/-- One T-cycle of the synthesizer, in the order of R722. -/
def Apu.tick (rate : Nat) (a : Apu) : Apu :=
  (if a.power then a.tickSequencer.tickChannels else a).tickSample rate

/-- The NR52 read value (R735). -/
def Apu.readNr52 (a : Apu) : Byte :=
  0x70#8 ||| (if a.power then 0x80#8 else 0x00#8) ||| (if a.ch4.on then 0x08#8 else 0x00#8)
    ||| (if a.ch3.on then 0x04#8 else 0x00#8) ||| (if a.ch2.on then 0x02#8 else 0x00#8)
    ||| (if a.ch1.on then 0x01#8 else 0x00#8)

/-- The read value of a sound register (R90, R735). -/
def Apu.readReg (a : Apu) (r : SoundReg) : Byte :=
  match r with
  | .nr52 => a.readNr52
  | r => a.regs.get r ||| r.mask

/-- The part of a trigger (R714) that channels 1 and 2 share. -/
def Square.trigger (nrx2 : Byte) (period : BitVec 11) (c : Square) : Square :=
  { c with
    on := dacOn nrx2
    length := if c.length = 0 then 64 else c.length
    freqTimer := squareReload period
    volume := nrx2.extractLsb' 4 4
    envTimer := nrx2.extractLsb' 0 3 }

/-- Trigger of channel 1 (R714), the register already stored. -/
def Apu.trigger1 (a : Apu) : Apu :=
  let a :=
    { a with
      ch1 := a.ch1.trigger a.regs.nr12 a.regs.period1
      sweep :=
        { timer := sweepReload a.regs.nr10
          enabled := field a.regs.nr10 6 4 != 0 || field a.regs.nr10 2 0 != 0
          shadow := a.regs.period1 } }
  if field a.regs.nr10 2 0 ≠ 0 then a.sweepCheck else a

/-- Trigger of channel 2 (R714). -/
def Apu.trigger2 (a : Apu) : Apu := { a with ch2 := a.ch2.trigger a.regs.nr22 a.regs.period2 }

/-- Trigger of channel 3 (R714). -/
def Apu.trigger3 (a : Apu) : Apu :=
  { a with
    ch3 :=
      { on := a.regs.nr30.getLsbD 7
        length := if a.ch3.length = 0 then 256 else a.ch3.length
        freqTimer := waveReload a.regs.period3
        wavePos := 0#5 } }

/-- Trigger of channel 4 (R714). -/
def Apu.trigger4 (a : Apu) : Apu :=
  { a with
    ch4 :=
      { on := dacOn a.regs.nr42
        length := if a.ch4.length = 0 then 64 else a.ch4.length
        freqTimer := noiseReload a.regs.nr43
        volume := a.regs.nr42.extractLsb' 4 4
        envTimer := a.regs.nr42.extractLsb' 0 3
        lfsr := 0x7FFF#15 } }

/-- What storing `v` in a sound register sets off, the byte already stored (R704, R711, R714, R736). -/
def Apu.afterStore (a : Apu) (r : SoundReg) (v : Byte) : Apu :=
  match r with
  | .nr11 => { a with ch1 := { a.ch1 with length := 64 - field v 5 0 } }
  | .nr21 => { a with ch2 := { a.ch2 with length := 64 - field v 5 0 } }
  | .nr31 => { a with ch3 := { a.ch3 with length := 256 - v.toNat } }
  | .nr41 => { a with ch4 := { a.ch4 with length := 64 - field v 5 0 } }
  | .nr12 => { a with ch1 := { a.ch1 with on := a.ch1.on && dacOn v } }
  | .nr22 => { a with ch2 := { a.ch2 with on := a.ch2.on && dacOn v } }
  | .nr30 => { a with ch3 := { a.ch3 with on := a.ch3.on && v.getLsbD 7 } }
  | .nr42 => { a with ch4 := { a.ch4 with on := a.ch4.on && dacOn v } }
  | .nr14 => if v.getLsbD 7 then a.trigger1 else a
  | .nr24 => if v.getLsbD 7 then a.trigger2 else a
  | .nr34 => if v.getLsbD 7 then a.trigger3 else a
  | .nr44 => if v.getLsbD 7 then a.trigger4 else a
  | .nr10 | .nr13 | .nr23 | .nr32 | .nr33 | .nr43 | .nr50 | .nr51 | .nr52 => a

/-- Clearing NR52 bit 7 (R736). -/
def Apu.powerOff (a : Apu) : Apu :=
  { a with
    power := false
    regs := SoundRegs.zero
    ch1 := { a.ch1 with on := false, length := 0 }
    ch2 := { a.ch2 with on := false, length := 0 }
    ch3 := { a.ch3 with on := false, length := 0 }
    ch4 := { a.ch4 with on := false, length := 0 }
    fsCounter := 0
    fsStep := 0 }

/-- A processor write of `v` to a sound register (R736). -/
def Apu.writeReg (a : Apu) (r : SoundReg) (v : Byte) : Apu :=
  match r with
  | .nr52 => if v.getLsbD 7 then { a with power := true } else if a.power then a.powerOff else a
  | r => if a.power then { a with regs := a.regs.set v r }.afterStore r v else a

end Sys2Proof.Machine
end

