-- ==== Sys2Proof/Machine/TimerUnit.lean ====
section
/-! DEFINITION. Sys2Proof/Machine/TimerUnit.lean: the divider and TIMA (R830 to R834). Each operation answers the timer
and whether it requests the timer interrupt. -/

namespace Sys2Proof.Machine

/-- `sel(t)` of R830. -/
def timerSel (t : Nat) : Nat := if t = 0 then 9 else if t = 1 then 3 else if t = 2 then 5 else 7

/-- `in(div_counter, TAC)` of R830: the enable bit and the selected divider bit. -/
def Timer.input (t : Timer) : Bool := t.tac.getLsbD 2 && t.div.getLsbD (timerSel (t.tac.toNat % 4))

/-- `tima_inc()` (R831). -/
def Timer.inc (t : Timer) : Timer × Bool :=
  if t.tima = 0xFF#8 then ({ t with tima := t.tma }, true) else ({ t with tima := t.tima + 1#8 }, false)

/-- Increment TIMA when the input fell from `old` to its present value (R830, R832, R833). -/
def Timer.afterEdge (old : Bool) (t : Timer) : Timer × Bool :=
  if old && !t.input then t.inc else (t, false)

/-- One T-cycle (R830). -/
def Timer.tick (t : Timer) : Timer × Bool := Timer.afterEdge t.input { t with div := t.div + 1#16 }

/-- `div_reset()`: a write of any value to DIV, and STOP (R584, R832). -/
def Timer.divReset (t : Timer) : Timer × Bool := Timer.afterEdge t.input { t with div := 0#16 }

/-- A write of `v` to TAC (R833). -/
def Timer.writeTac (t : Timer) (v : Byte) : Timer × Bool :=
  Timer.afterEdge t.input { t with tac := v.extractLsb' 0 3 }

end Sys2Proof.Machine
end

