-- ==== Sys2Proof/Machine/Bus.lean ====
section
/-! DEFINITION. Sys2Proof/Machine/Bus.lean: the address map and what every address does on a read and on a write
(20_memory.md), with OAM DMA. -/

namespace Sys2Proof.Machine

open Sys2Proof.Config

/-- The regions of R150, each with the offset an address has in it; `rom` and `eram` keep the address itself. -/
inductive Region where
  | rom (a : Nat)
  | vram (i : Nat)
  | eram (a : Nat)
  | wram (i : Nat)
  | oam (i : Nat)
  | unusable
  | io (i : Nat)
  | hram (i : Nat)
  | ie
deriving DecidableEq, Repr

/-- The region of an address (R150); the echo 0xE000-0xFDFF is WRAM again (R157). -/
def region (a : Word) : Region :=
  let n := a.toNat
  if n < 0x8000 then .rom n
  else if n < 0xA000 then .vram (n - 0x8000)
  else if n < 0xC000 then .eram n
  else if n < 0xE000 then .wram (n - 0xC000)
  else if n < 0xFE00 then .wram (n - 0xE000)
  else if n < 0xFEA0 then .oam (n - 0xFE00)
  else if n < 0xFF00 then .unusable
  else if n < 0xFF80 then .io (n - 0xFF00)
  else if n < 0xFFFF then .hram (n - 0xFF80)
  else .ie

/-- The registers of the I/O block (10_state.md section 4); `unused` is every address R92 lists. -/
inductive IoReg where
  | p1 | sb | sc | div | tima | tma | tac | intf
  | sound (r : SoundReg)
  | wave (i : Nat)
  | lcdc | stat | scy | scx | ly | lyc | dma | bgp | obp0 | obp1 | wy | wx
  | unused
deriving DecidableEq, Repr

/-- The sound register at 0xFF00 + `i` (R90); FF15 and FF1F have none (R92; log 11). -/
def soundReg (i : Nat) : Option SoundReg :=
  match i with
  | 0x10 => some .nr10 | 0x11 => some .nr11 | 0x12 => some .nr12 | 0x13 => some .nr13 | 0x14 => some .nr14
  | 0x16 => some .nr21 | 0x17 => some .nr22 | 0x18 => some .nr23 | 0x19 => some .nr24
  | 0x1A => some .nr30 | 0x1B => some .nr31 | 0x1C => some .nr32 | 0x1D => some .nr33 | 0x1E => some .nr34
  | 0x20 => some .nr41 | 0x21 => some .nr42 | 0x22 => some .nr43 | 0x23 => some .nr44
  | 0x24 => some .nr50 | 0x25 => some .nr51 | 0x26 => some .nr52
  | _ => none

/-- The register at 0xFF00 + `i` (R72 to R92, R163). -/
def ioReg (i : Nat) : IoReg :=
  match soundReg i with
  | some r => .sound r
  | none =>
    if 0x30 ≤ i ∧ i < 0x40 then .wave (i - 0x30)
    else
      match i with
      | 0x00 => .p1 | 0x01 => .sb | 0x02 => .sc | 0x04 => .div | 0x05 => .tima | 0x06 => .tma | 0x07 => .tac
      | 0x0F => .intf
      | 0x40 => .lcdc | 0x41 => .stat | 0x42 => .scy | 0x43 => .scx | 0x44 => .ly | 0x45 => .lyc | 0x46 => .dma
      | 0x47 => .bgp | 0x48 => .obp0 | 0x49 => .obp1 | 0x4A => .wy | 0x4B => .wx
      | _ => .unused

/-- The P1 read value (R72, R850). -/
def State.readP1 (s : State) : Byte :=
  let dirs : BitVec 4 := ~~~(s.buttons.extractLsb' 0 4)
  let acts : BitVec 4 := ~~~(s.buttons.extractLsb' 4 4)
  let low : BitVec 4 := (if s.p1.getLsbD 0 then 0xF#4 else dirs) &&& (if s.p1.getLsbD 1 then 0xF#4 else acts)
  (0b11#2 ++ s.p1) ++ low

/-- The read value of an I/O register (R162). -/
def ioRead (s : State) : IoReg → Byte
  | .p1 => s.readP1
  | .sb => s.serial.sb
  | .sc => s.serial.readSc
  | .div => s.timer.div.extractLsb' 8 8
  | .tima => s.timer.tima
  | .tma => s.timer.tma
  | .tac => 0xF8#8 ||| s.timer.tac.setWidth 8
  | .intf => 0xE0#8 ||| s.intf.setWidth 8
  | .sound r => s.apu.readReg r
  | .wave i => s.apu.wave.read i
  | .lcdc => s.ppu.lcdc
  | .stat => s.ppu.readStat
  | .scy => s.ppu.scy
  | .scx => s.ppu.scx
  | .ly => s.ppu.ly
  | .lyc => s.ppu.lyc
  | .dma => s.ppu.dma
  | .bgp => s.ppu.bgp
  | .obp0 => s.ppu.obp0
  | .obp1 => s.ppu.obp1
  | .wy => s.ppu.wy
  | .wx => s.ppu.wx
  | .unused => s.params.sentinel

/-- The byte a region shows; `blocked` hides VRAM and OAM (R152 to R165). -/
def readRegion (blocked : Bool) (s : State) : Region → Byte
  | .rom a => s.cart.readRom s.params.mbc1Model a
  | .vram i => if blocked then s.params.sentinel else s.vram.read i
  | .eram a => s.cart.readRam s.params.sentinel a
  | .wram i => s.wram.read i
  | .oam i => if blocked then s.params.sentinel else s.oam.read i
  | .unusable => s.params.sentinel
  | .io i => ioRead s (ioReg i)
  | .hram i => s.hram.read i
  | .ie => s.ie

/-- `MemRead(a, 1)`, the processor's view (R160). -/
def memRead (s : State) (a : Word) : Byte := readRegion s.ppu.blocked s (region a)

/-- `RawRead(a)`, the view of OAM DMA (R166). -/
def rawRead (s : State) (a : Word) : Byte := readRegion false s (region a)

/-- The timer after one of its operations, with its request (R831). -/
def State.putTimer (s : State) (r : Timer × Bool) : State :=
  { s with timer := r.1, intf := s.intf ||| irqIf r.2 irqTimer }

/-- The serial port after one of its operations, with its request (R846). -/
def State.putSerial (s : State) (r : Serial × Bool) : State :=
  { s with serial := r.1, intf := s.intf ||| irqIf r.2 irqSerial }

/-- The pixel pipeline after one of its operations, with its requests (R605, R606, R615). -/
def State.putPpu (s : State) (r : Ppu × BitVec 5) : State :=
  { s with ppu := r.1, intf := s.intf ||| r.2 }

/-- `for i in i .. i+n-1: OAM[i] <- RawRead(base + i)` (R190). -/
def dmaCopy : Nat → Nat → Word → State → State
  | 0, _, _, s => s
  | n + 1, i, base, s =>
    dmaCopy n (i + 1) base { s with oam := s.oam.write i (rawRead s (base + BitVec.ofNat 16 i)) }

/-- A write of `v` to 0xFF46: the register, the copy, the stall (R190). -/
def dmaStart (s : State) (v : Byte) : State :=
  let s := { s with ppu := { s.ppu with dma := v } }
  let s := dmaCopy dmaLength 0 (v ++ 0x00#8) s
  { s with cpu := { s.cpu with dmaStall := dmaLength } }

/-- A processor write of `v` to an I/O register (R163). -/
def ioWrite (s : State) (v : Byte) : IoReg → State
  | .p1 => { s with p1 := v.extractLsb' 4 2 }
  | .sb => { s with serial := { s.serial with sb := v } }
  | .sc => { s with serial := s.serial.writeSc v }
  | .div => s.putTimer s.timer.divReset
  | .tima => { s with timer := { s.timer with tima := v } }
  | .tma => { s with timer := { s.timer with tma := v } }
  | .tac => s.putTimer (s.timer.writeTac v)
  | .intf => { s with intf := v.extractLsb' 0 5 }
  | .sound r => { s with apu := s.apu.writeReg r v }
  | .wave i => { s with apu := { s.apu with wave := s.apu.wave.write i v } }
  | .lcdc => s.putPpu (s.ppu.writeLcdc v)
  | .stat => { s with ppu := { s.ppu with statSel := v.extractLsb' 3 4 } }
  | .scy => { s with ppu := { s.ppu with scy := v } }
  | .scx => { s with ppu := { s.ppu with scx := v } }
  | .ly => s
  | .lyc => s.putPpu (s.ppu.writeLyc v)
  | .dma => dmaStart s v
  | .bgp => { s with ppu := { s.ppu with bgp := v } }
  | .obp0 => { s with ppu := { s.ppu with obp0 := v } }
  | .obp1 => { s with ppu := { s.ppu with obp1 := v } }
  | .wy => { s with ppu := { s.ppu with wy := v } }
  | .wx => { s with ppu := { s.ppu with wx := v } }
  | .unused => s

/-- What a write of `v` to a region does (R153 to R165). -/
def writeRegion (s : State) (v : Byte) : Region → State
  | .rom a => { s with cart := s.cart.writeControl a v }
  | .vram i => if s.ppu.blocked then s else { s with vram := s.vram.write i v }
  | .eram a => { s with cart := s.cart.writeRam a v }
  | .wram i => { s with wram := s.wram.write i v }
  | .oam i => if s.ppu.blocked then s else { s with oam := s.oam.write i v }
  | .unusable => s
  | .io i => ioWrite s v (ioReg i)
  | .hram i => { s with hram := s.hram.write i v }
  | .ie => { s with ie := v }

/-- `MemWrite(a, 1, v)` (R161). -/
def memWrite (s : State) (a : Word) (v : Byte) : State := writeRegion s v (region a)

/-- `MemRead(a, 2)`: the low byte first (R14, R170). -/
def memRead16 (s : State) (a : Word) : Word :=
  (memRead s (a + 1#16)) ++ (memRead s a)

/-- `MemWrite(a, 2, v)`: the low byte first (R14, R170, D39). -/
def memWrite16 (s : State) (a : Word) (v : Word) : State :=
  memWrite (memWrite s a (v.extractLsb' 0 8)) (a + 1#16) (v.extractLsb' 8 8)

end Sys2Proof.Machine
end

