-- ==== Sys2Proof/Machine/Flags.lean ====
section
/-! DEFINITION. Sys2Proof/Machine/Flags.lean: the flag byte and every flag computation (R16, R55, 41_alu8.md to
43_rotate_shift_bit.md). Each operation answers its result and the new flags. -/

namespace Sys2Proof.Machine

/-- `carry_k(a, b, c)` of R16, on exact integers. -/
def carryOut (k a b c : Nat) : Bool := decide (2 ^ k ≤ a % 2 ^ k + b % 2 ^ k + c)

/-- `borrow_k(a, b, c)` of R16, on exact integers. -/
def borrowIn (k a b c : Nat) : Bool := decide (a % 2 ^ k < b % 2 ^ k + c)

/-- F as a byte: Z N H C in bits 7-4, bits 3-0 zero (R55). -/
def Flags.toByte (f : Flags) : Byte :=
  (if f.z then 0x80#8 else 0x00#8) ||| (if f.n then 0x40#8 else 0x00#8)
    ||| (if f.h then 0x20#8 else 0x00#8) ||| (if f.c then 0x10#8 else 0x00#8)

/-- What storing a byte in F leaves: bits 7-4 (R13, R55, R424). -/
def Flags.ofByte (v : Byte) : Flags :=
  { z := v.getLsbD 7, n := v.getLsbD 6, h := v.getLsbD 5, c := v.getLsbD 4 }

/-- The eight operations of R450. -/
inductive AluOp where
  | add | adc | sub | sbc | and | xor | or | cp
deriving DecidableEq, Repr

/-- `ADD` and, with the carry, `ADC` (R451, R452). -/
def addByte (a s : Byte) (c : Bool) : Byte × Flags :=
  let r := a + s + BitVec.ofNat 8 (bit c)
  (r, { z := r == 0#8, n := false, h := carryOut 4 a.toNat s.toNat (bit c), c := carryOut 8 a.toNat s.toNat (bit c) })

/-- `SUB` and, with the carry, `SBC` (R453, R454). -/
def subByte (a s : Byte) (c : Bool) : Byte × Flags :=
  let r := a - s - BitVec.ofNat 8 (bit c)
  (r, { z := r == 0#8, n := true, h := borrowIn 4 a.toNat s.toNat (bit c), c := borrowIn 8 a.toNat s.toNat (bit c) })

/-- Flags of the logic operations (R455 to R457). -/
def logicFlags (r : Byte) (h : Bool) : Flags := { z := r == 0#8, n := false, h := h, c := false }

/-- A and the flags after one of R451 to R458; `CP` keeps A. -/
def alu (op : AluOp) (a s : Byte) (f : Flags) : Byte × Flags :=
  match op with
  | .add => addByte a s false
  | .adc => addByte a s f.c
  | .sub => subByte a s false
  | .sbc => subByte a s f.c
  | .and => (a &&& s, logicFlags (a &&& s) true)
  | .xor => (a ^^^ s, logicFlags (a ^^^ s) false)
  | .or => (a ||| s, logicFlags (a ||| s) false)
  | .cp => (a, (subByte a s false).2)

/-- `INC` of a byte (R460): C is kept. -/
def incByte (v : Byte) (f : Flags) : Byte × Flags :=
  (v + 1#8, { z := v + 1#8 == 0#8, n := false, h := field v 3 0 == 0xF, c := f.c })

/-- `DEC` of a byte (R461): C is kept. -/
def decByte (v : Byte) (f : Flags) : Byte × Flags :=
  (v - 1#8, { z := v - 1#8 == 0#8, n := true, h := field v 3 0 == 0x0, c := f.c })

/-- `DAA`'s two corrections after an addition, the second test on the value the first leaves (R465). -/
def daaAdd (a : Byte) (f : Flags) : Byte × Bool :=
  let hiFix := f.c || decide (0x99 < a.toNat)
  let a := if hiFix then a + 0x60#8 else a
  (if f.h || decide (9 < field a 3 0) then a + 0x06#8 else a, hiFix)

/-- `DAA`'s two corrections after a subtraction (R465). -/
def daaSub (a : Byte) (f : Flags) : Byte × Bool :=
  let a := if f.c then a - 0x60#8 else a
  (if f.h then a - 0x06#8 else a, f.c)

/-- `DAA` (R465). -/
def daaByte (a : Byte) (f : Flags) : Byte × Flags :=
  let r := if f.n then daaSub a f else daaAdd a f
  (r.1, { z := r.1 == 0#8, n := f.n, h := false, c := r.2 })

/-- `CPL`'s flags (R466). -/
def cplFlags (f : Flags) : Flags := { f with n := true, h := true }

/-- `SCF`'s flags (R467). -/
def scfFlags (f : Flags) : Flags := { f with n := false, h := false, c := true }

/-- `CCF`'s flags (R468). -/
def ccfFlags (f : Flags) : Flags := { f with n := false, h := false, c := !f.c }

/-- `ADD HL,dd` (R492): Z is kept. -/
def addWord (x v : Word) (f : Flags) : Word × Flags :=
  (x + v, { z := f.z, n := false, h := carryOut 12 x.toNat v.toNat 0, c := carryOut 16 x.toNat v.toNat 0 })

/-- `SP + e8` with the flags of R493 and R494: the carries of the unsigned addition of the low byte and e. -/
def addSigned (sp : Word) (e : Byte) : Word × Flags :=
  (sp + sext16 e,
    { z := false, n := false, h := carryOut 4 (lo sp).toNat e.toNat 0, c := carryOut 8 (lo sp).toNat e.toNat 0 })

/-- The eight rotates and shifts of R310. -/
inductive ShiftOp where
  | rlc | rrc | rl | rr | sla | sra | swap | srl
deriving DecidableEq, Repr

/-- The result `w` and the bit that goes to C (R515 to R522), `c` being the old carry. -/
def shiftByte (op : ShiftOp) (v : Byte) (c : Bool) : Byte × Bool :=
  let top : Byte → Byte := fun w => w ||| 0x80#8
  let low : Byte → Byte := fun w => w ||| 0x01#8
  match op with
  | .rlc => (if v.getLsbD 7 then low (v <<< 1) else v <<< 1, v.getLsbD 7)
  | .rrc => (if v.getLsbD 0 then top (v >>> 1) else v >>> 1, v.getLsbD 0)
  | .rl => (if c then low (v <<< 1) else v <<< 1, v.getLsbD 7)
  | .rr => (if c then top (v >>> 1) else v >>> 1, v.getLsbD 0)
  | .sla => (v <<< 1, v.getLsbD 7)
  | .sra => ((v >>> 1) ||| (v &&& 0x80#8), v.getLsbD 0)
  | .swap => ((v <<< 4) ||| (v >>> 4), false)
  | .srl => (v >>> 1, v.getLsbD 0)

/-- Flags of the accumulator rotates: Z is 0 whatever the result (R510 to R513). -/
def rotateAFlags (c : Bool) : Flags := { z := false, n := false, h := false, c := c }

/-- Flags of the prefixed rotates and shifts (R515 to R522). -/
def shiftFlags (w : Byte) (c : Bool) : Flags := { z := w == 0#8, n := false, h := false, c := c }

/-- `BIT b` (R525): C is kept. -/
def bitFlags (b : Nat) (v : Byte) (f : Flags) : Flags := { z := !v.getLsbD b, n := false, h := true, c := f.c }

/-- `RES b` (R526). -/
def resetBit (b : Nat) (v : Byte) : Byte := v &&& ~~~(1#8 <<< b)

/-- `SET b` (R527). -/
def setBit (b : Nat) (v : Byte) : Byte := v ||| (1#8 <<< b)

end Sys2Proof.Machine
end

