-- ==== Sys2Proof/Machine/Operands.lean ====
section
/-! DEFINITION. Sys2Proof/Machine/Operands.lean: every operand form (R302 to R307, R345, R430): registers, pairs, the byte
at HL, immediates, conditions, and the one place each is read and written. -/

namespace Sys2Proof.Machine

/-- The registers of the field `r` (R302), `(HL)` apart. -/
inductive Reg8 where
  | b | c | d | e | h | l | a
deriving DecidableEq, Repr

/-- The pairs of the field `dd` (R303). -/
inductive Pair where
  | bc | de | hl | sp
deriving DecidableEq, Repr

/-- The pairs of the field `qq` (R304). -/
inductive StackPair where
  | bc | de | hl | af
deriving DecidableEq, Repr

/-- The conditions of the field `cc` (R305). -/
inductive Cond where
  | nz | z | nc | c
deriving DecidableEq, Repr

/-- The second operand of the ALU group (R450). -/
inductive Source where
  | reg (r : Reg8)
  | atHl
  | imm (n : Byte)
deriving DecidableEq, Repr

/-- The operand of the prefixed instructions (R514). -/
inductive Target where
  | reg (r : Reg8)
  | atHl
deriving DecidableEq, Repr

/-- The address register of the forms that load and store A through a register pair (R405 to R408, R415 to R418). -/
inductive Pointer where
  | bc | de | hlInc | hlDec
deriving DecidableEq, Repr

/-- `x[r]` (R13, R50). -/
def State.getReg (s : State) : Reg8 → Byte
  | .b => s.cpu.b
  | .c => s.cpu.c
  | .d => s.cpu.d
  | .e => s.cpu.e
  | .h => s.cpu.h
  | .l => s.cpu.l
  | .a => s.cpu.a

/-- `x[r] <- v` (R13, R50). -/
def State.setReg (s : State) (r : Reg8) (v : Byte) : State :=
  match r with
  | .b => { s with cpu := { s.cpu with b := v } }
  | .c => { s with cpu := { s.cpu with c := v } }
  | .d => { s with cpu := { s.cpu with d := v } }
  | .e => { s with cpu := { s.cpu with e := v } }
  | .h => { s with cpu := { s.cpu with h := v } }
  | .l => { s with cpu := { s.cpu with l := v } }
  | .a => { s with cpu := { s.cpu with a := v } }

/-- `x[BC]` (R51). -/
def State.bc (s : State) : Word := hilo s.cpu.b s.cpu.c
/-- `x[DE]` (R51). -/
def State.de (s : State) : Word := hilo s.cpu.d s.cpu.e
/-- `x[HL]` (R51). -/
def State.hl (s : State) : Word := hilo s.cpu.h s.cpu.l
/-- `x[AF]` (R51, R55). -/
def State.af (s : State) : Word := hilo s.cpu.a s.cpu.f.toByte

/-- `HL <- w`, both halves at once (R13). -/
def State.setHl (s : State) (w : Word) : State := { s with cpu := { s.cpu with h := hi w, l := lo w } }

/-- `SP <- w` (R52). -/
def State.setSp (s : State) (w : Word) : State := { s with cpu := { s.cpu with sp := w } }

/-- `pc <- w` (R53). -/
def State.setPc (s : State) (w : Word) : State := { s with cpu := { s.cpu with pc := w } }

/-- The flags (R55). -/
def State.setFlags (s : State) (f : Flags) : State := { s with cpu := { s.cpu with f := f } }

/-- `x[dd]` (R303). -/
def State.getPair (s : State) : Pair → Word
  | .bc => s.bc
  | .de => s.de
  | .hl => s.hl
  | .sp => s.cpu.sp

/-- `x[dd] <- w` (R303). -/
def State.setPair (s : State) (p : Pair) (w : Word) : State :=
  match p with
  | .bc => { s with cpu := { s.cpu with b := hi w, c := lo w } }
  | .de => { s with cpu := { s.cpu with d := hi w, e := lo w } }
  | .hl => s.setHl w
  | .sp => s.setSp w

/-- `x[qq]` (R304). -/
def State.getStackPair (s : State) : StackPair → Word
  | .bc => s.bc
  | .de => s.de
  | .hl => s.hl
  | .af => s.af

/-- `x[qq] <- w` (R304); the low half of AF keeps bits 7-4 only (R13, R424). -/
def State.setStackPair (s : State) (q : StackPair) (w : Word) : State :=
  match q with
  | .bc => { s with cpu := { s.cpu with b := hi w, c := lo w } }
  | .de => { s with cpu := { s.cpu with d := hi w, e := lo w } }
  | .hl => s.setHl w
  | .af => { s with cpu := { s.cpu with a := hi w, f := Flags.ofByte (lo w) } }

/-- `cond(cc)` (R550). -/
def State.cond (s : State) : Cond → Bool
  | .nz => !s.cpu.f.z
  | .z => s.cpu.f.z
  | .nc => !s.cpu.f.c
  | .c => s.cpu.f.c

/-- The operand `s` of R450. -/
def State.source (s : State) : Source → Byte
  | .reg r => s.getReg r
  | .atHl => memRead s s.hl
  | .imm n => n

/-- `cyc` of R450. -/
def Source.cycles : Source → Nat
  | .reg _ => 1
  | .atHl => 2
  | .imm _ => 2

/-- The `v` of R514. -/
def State.target (s : State) : Target → Byte
  | .reg r => s.getReg r
  | .atHl => memRead s s.hl

/-- "store w" of R514. -/
def State.storeTarget (s : State) (t : Target) (w : Byte) : State :=
  match t with
  | .reg r => s.setReg r w
  | .atHl => memWrite s s.hl w

/-- `cyc` of R514: 2 for a register, 4 for `(HL)`. -/
def Target.cycles : Target → Nat
  | .reg _ => 2
  | .atHl => 4

/-- The cycles of `BIT` (R525). -/
def Target.testCycles : Target → Nat
  | .reg _ => 2
  | .atHl => 3

/-- The address of a pointer form, read before HL moves (R405 to R408, R415 to R418). -/
def State.pointer (s : State) : Pointer → Word
  | .bc => s.bc
  | .de => s.de
  | .hlInc => s.hl
  | .hlDec => s.hl

/-- The post-increment or post-decrement of HL, modulo 2^16 (R415 to R418). -/
def State.bumpPointer (s : State) : Pointer → State
  | .bc => s
  | .de => s
  | .hlInc => s.setHl (s.hl + 1#16)
  | .hlDec => s.setHl (s.hl - 1#16)

/-- The high-page address `0xFF00 + n` (R345, R411 to R414). -/
def highPage (n : Byte) : Word := hilo 0xFF#8 n

end Sys2Proof.Machine
end

