-- ==== Sys2Proof/Machine/Ops.lean ====
section
/-! DEFINITION. Sys2Proof/Machine/Ops.lean: the operations instructions share: the stack, ending an instruction, taking an
interrupt and returning from one, the fatal condition, and `div_reset` (R14, R15, R802, R813). -/

namespace Sys2Proof.Machine

/-- End an instruction whose step reports `n` M-cycles (`cycles <- n`, R15). -/
def done (n : Nat) (s : State) : Result := .next { s with cpu := { s.cpu with cycles := n } }

/-- `push16(v)`: the high byte at SP - 1, then the low byte at SP - 2 (R14). -/
def push16 (s : State) (v : Word) : State :=
  let s := s.setSp (s.cpu.sp - 1#16)
  let s := memWrite s s.cpu.sp (hi v)
  let s := s.setSp (s.cpu.sp - 1#16)
  memWrite s s.cpu.sp (lo v)

/-- `pop16()`: the low byte at SP, then the high byte (R14). -/
def pop16 (s : State) : Word × State :=
  let l := memRead s s.cpu.sp
  let s := s.setSp (s.cpu.sp + 1#16)
  let h := memRead s s.cpu.sp
  (hilo h l, s.setSp (s.cpu.sp + 1#16))

/-- `IE & IF & 0x1F` (R800, R811). -/
def State.pending (s : State) : BitVec 5 := s.ie.extractLsb' 0 5 &&& s.intf

/-- The lowest set bit of a non-zero pending mask (R812). -/
def lowestPending (p : BitVec 5) : Nat :=
  if p.getLsbD 0 then 0 else if p.getLsbD 1 then 1 else if p.getLsbD 2 then 2 else if p.getLsbD 3 then 3 else 4

/-- Clear bit `k` of IF (R813). -/
def State.acknowledge (s : State) (k : Nat) : State := { s with intf := s.intf &&& ~~~(1#5 <<< k) }

/-- The return address a dispatch saves, with the halt bug disarmed (R583, R813). -/
def State.returnPc (s : State) : Word := if s.cpu.haltBug then s.cpu.pc - 1#16 else s.cpu.pc

/-- `dispatch(k)` (R813): save pc on the stack, clear IME and the request, go to the vector. 5 M-cycles. -/
def takeInterrupt (k : Nat) (s : State) : State :=
  let ret := s.returnPc
  let s := { s with cpu := { s.cpu with haltBug := false } }
  let s := push16 s ret
  let s := { s with cpu := { s.cpu with ime := false } }
  let s := s.acknowledge k
  { s with cpu := { s.cpu with pc := BitVec.ofNat 16 (0x40 + 8 * k), cycles := 5 } }

/-- Return from an interrupt, what RETI does (R560, R814): pc from the stack, IME set at once. -/
def returnFromInterrupt (s : State) : State :=
  let r := pop16 s
  { r.2 with cpu := { r.2.cpu with pc := r.1, ime := true, imeDelay := 0 } }

/-- `raise Fatal(UndefinedOpcode(op, addr))` with `addr` the address the opcode was fetched from; the step reports 0
M-cycles (R15, R340, R802; log 1). -/
def raiseUndefined (op : Byte) (s : State) : State :=
  { s with cpu := { s.cpu with fatal := some { op := op, addr := s.cpu.opAddr }, cycles := 0 } }

/-- `div_reset()` (R584, R832). -/
def divReset (s : State) : State := s.putTimer s.timer.divReset

end Sys2Proof.Machine
end

