-- ==== Sys2Proof/Machine/Arith16.lean ====
section
/-! DEFINITION. Sys2Proof/Machine/Arith16.lean: 16-bit arithmetic (42_alu16.md). -/

namespace Sys2Proof.Machine

/-- `INC dd` (R490). -/
def incPair (dd : Pair) (s : State) : Result := done 2 (s.setPair dd (s.getPair dd + 1#16))

/-- `DEC dd` (R491). -/
def decPair (dd : Pair) (s : State) : Result := done 2 (s.setPair dd (s.getPair dd - 1#16))

/-- `ADD HL,dd` (R492). -/
def addHl (dd : Pair) (s : State) : Result :=
  let r := addWord s.hl (s.getPair dd) s.cpu.f
  done 2 ((s.setHl r.1).setFlags r.2)

/-- `ADD SP,e8` (R493). -/
def addSp (e : Byte) (s : State) : Result :=
  let r := addSigned s.cpu.sp e
  done 4 ((s.setSp r.1).setFlags r.2)

/-- `LD HL,SP+e8` (R494). -/
def loadHlSp (e : Byte) (s : State) : Result :=
  let r := addSigned s.cpu.sp e
  done 3 ((s.setHl r.1).setFlags r.2)

/-- `INC BC` (R490). -/
def execIncBc (s : State) : Result := incPair .bc s

/-- `INC DE` (R490). -/
def execIncDe (s : State) : Result := incPair .de s

/-- `INC HL` (R490). -/
def execIncHl (s : State) : Result := incPair .hl s

/-- `INC SP` (R490). -/
def execIncSp (s : State) : Result := incPair .sp s

/-- `DEC BC` (R491). -/
def execDecBc (s : State) : Result := decPair .bc s

/-- `DEC DE` (R491). -/
def execDecDe (s : State) : Result := decPair .de s

/-- `DEC HL` (R491). -/
def execDecHl (s : State) : Result := decPair .hl s

/-- `DEC SP` (R491). -/
def execDecSp (s : State) : Result := decPair .sp s

/-- `ADD HL,BC` (R492). -/
def execAddHlBc (s : State) : Result := addHl .bc s

/-- `ADD HL,DE` (R492). -/
def execAddHlDe (s : State) : Result := addHl .de s

/-- `ADD HL,HL` (R492). -/
def execAddHlHl (s : State) : Result := addHl .hl s

/-- `ADD HL,SP` (R492). -/
def execAddHlSp (s : State) : Result := addHl .sp s

/-- `ADD SP,e8` (R493). -/
def execAddSpE8 (e : Byte) (s : State) : Result := addSp e s

/-- `LD HL,SP+e8` (R494). -/
def execLdHlSpE8 (e : Byte) (s : State) : Result := loadHlSp e s

end Sys2Proof.Machine
end

