-- ==== Sys2Proof/Machine/Arith8.lean ====
section
/-! DEFINITION. Sys2Proof/Machine/Arith8.lean: 8-bit arithmetic and logic (41_alu8.md). -/

namespace Sys2Proof.Machine

/-- One of the eight operations of R450 on A and the operand `src` (R451 to R458). -/
def aluA (op : AluOp) (src : Source) (s : State) : Result :=
  let r := alu op s.cpu.a (s.source src) s.cpu.f
  done src.cycles ((s.setReg .a r.1).setFlags r.2)

/-- `INC r` (R460). -/
def incReg (r : Reg8) (s : State) : Result :=
  let v := incByte (s.getReg r) s.cpu.f
  done 1 ((s.setReg r v.1).setFlags v.2)

/-- `DEC r` (R461). -/
def decReg (r : Reg8) (s : State) : Result :=
  let v := decByte (s.getReg r) s.cpu.f
  done 1 ((s.setReg r v.1).setFlags v.2)

/-- `INC (HL)` (R462). -/
def incAtHl (s : State) : Result :=
  let v := incByte (memRead s s.hl) s.cpu.f
  done 3 ((memWrite s s.hl v.1).setFlags v.2)

/-- `DEC (HL)` (R463). -/
def decAtHl (s : State) : Result :=
  let v := decByte (memRead s s.hl) s.cpu.f
  done 3 ((memWrite s s.hl v.1).setFlags v.2)

/-- `DAA` (R465). -/
def daaA (s : State) : Result :=
  let r := daaByte s.cpu.a s.cpu.f
  done 1 ((s.setReg .a r.1).setFlags r.2)

/-- `CPL` (R466). -/
def cplA (s : State) : Result := done 1 ((s.setReg .a (~~~s.cpu.a)).setFlags (cplFlags s.cpu.f))

/-- `SCF` (R467). -/
def setCarry (s : State) : Result := done 1 (s.setFlags (scfFlags s.cpu.f))

/-- `CCF` (R468). -/
def flipCarry (s : State) : Result := done 1 (s.setFlags (ccfFlags s.cpu.f))

/-- `ADD A,B` (R451). -/
def execAddAB (s : State) : Result := aluA .add (.reg .b) s

/-- `ADD A,C` (R451). -/
def execAddAC (s : State) : Result := aluA .add (.reg .c) s

/-- `ADD A,D` (R451). -/
def execAddAD (s : State) : Result := aluA .add (.reg .d) s

/-- `ADD A,E` (R451). -/
def execAddAE (s : State) : Result := aluA .add (.reg .e) s

/-- `ADD A,H` (R451). -/
def execAddAH (s : State) : Result := aluA .add (.reg .h) s

/-- `ADD A,L` (R451). -/
def execAddAL (s : State) : Result := aluA .add (.reg .l) s

/-- `ADD A,(HL)` (R451). -/
def execAddAAtHl (s : State) : Result := aluA .add .atHl s

/-- `ADD A,A` (R451). -/
def execAddAA (s : State) : Result := aluA .add (.reg .a) s

/-- `ADD A,n8` (R451). -/
def execAddAN8 (n : Byte) (s : State) : Result := aluA .add (.imm n) s

/-- `ADC A,B` (R452). -/
def execAdcAB (s : State) : Result := aluA .adc (.reg .b) s

/-- `ADC A,C` (R452). -/
def execAdcAC (s : State) : Result := aluA .adc (.reg .c) s

/-- `ADC A,D` (R452). -/
def execAdcAD (s : State) : Result := aluA .adc (.reg .d) s

/-- `ADC A,E` (R452). -/
def execAdcAE (s : State) : Result := aluA .adc (.reg .e) s

/-- `ADC A,H` (R452). -/
def execAdcAH (s : State) : Result := aluA .adc (.reg .h) s

/-- `ADC A,L` (R452). -/
def execAdcAL (s : State) : Result := aluA .adc (.reg .l) s

/-- `ADC A,(HL)` (R452). -/
def execAdcAAtHl (s : State) : Result := aluA .adc .atHl s

/-- `ADC A,A` (R452). -/
def execAdcAA (s : State) : Result := aluA .adc (.reg .a) s

/-- `ADC A,n8` (R452). -/
def execAdcAN8 (n : Byte) (s : State) : Result := aluA .adc (.imm n) s

/-- `SUB B` (R453). -/
def execSubB (s : State) : Result := aluA .sub (.reg .b) s

/-- `SUB C` (R453). -/
def execSubC (s : State) : Result := aluA .sub (.reg .c) s

/-- `SUB D` (R453). -/
def execSubD (s : State) : Result := aluA .sub (.reg .d) s

/-- `SUB E` (R453). -/
def execSubE (s : State) : Result := aluA .sub (.reg .e) s

/-- `SUB H` (R453). -/
def execSubH (s : State) : Result := aluA .sub (.reg .h) s

/-- `SUB L` (R453). -/
def execSubL (s : State) : Result := aluA .sub (.reg .l) s

/-- `SUB (HL)` (R453). -/
def execSubAtHl (s : State) : Result := aluA .sub .atHl s

/-- `SUB A` (R453). -/
def execSubA (s : State) : Result := aluA .sub (.reg .a) s

/-- `SUB n8` (R453). -/
def execSubN8 (n : Byte) (s : State) : Result := aluA .sub (.imm n) s

/-- `SBC A,B` (R454). -/
def execSbcAB (s : State) : Result := aluA .sbc (.reg .b) s

/-- `SBC A,C` (R454). -/
def execSbcAC (s : State) : Result := aluA .sbc (.reg .c) s

/-- `SBC A,D` (R454). -/
def execSbcAD (s : State) : Result := aluA .sbc (.reg .d) s

/-- `SBC A,E` (R454). -/
def execSbcAE (s : State) : Result := aluA .sbc (.reg .e) s

/-- `SBC A,H` (R454). -/
def execSbcAH (s : State) : Result := aluA .sbc (.reg .h) s

/-- `SBC A,L` (R454). -/
def execSbcAL (s : State) : Result := aluA .sbc (.reg .l) s

/-- `SBC A,(HL)` (R454). -/
def execSbcAAtHl (s : State) : Result := aluA .sbc .atHl s

/-- `SBC A,A` (R454). -/
def execSbcAA (s : State) : Result := aluA .sbc (.reg .a) s

/-- `SBC A,n8` (R454). -/
def execSbcAN8 (n : Byte) (s : State) : Result := aluA .sbc (.imm n) s

/-- `AND B` (R455). -/
def execAndB (s : State) : Result := aluA .and (.reg .b) s

/-- `AND C` (R455). -/
def execAndC (s : State) : Result := aluA .and (.reg .c) s

/-- `AND D` (R455). -/
def execAndD (s : State) : Result := aluA .and (.reg .d) s

/-- `AND E` (R455). -/
def execAndE (s : State) : Result := aluA .and (.reg .e) s

/-- `AND H` (R455). -/
def execAndH (s : State) : Result := aluA .and (.reg .h) s

/-- `AND L` (R455). -/
def execAndL (s : State) : Result := aluA .and (.reg .l) s

/-- `AND (HL)` (R455). -/
def execAndAtHl (s : State) : Result := aluA .and .atHl s

/-- `AND A` (R455). -/
def execAndA (s : State) : Result := aluA .and (.reg .a) s

/-- `AND n8` (R455). -/
def execAndN8 (n : Byte) (s : State) : Result := aluA .and (.imm n) s

/-- `XOR B` (R456). -/
def execXorB (s : State) : Result := aluA .xor (.reg .b) s

/-- `XOR C` (R456). -/
def execXorC (s : State) : Result := aluA .xor (.reg .c) s

/-- `XOR D` (R456). -/
def execXorD (s : State) : Result := aluA .xor (.reg .d) s

/-- `XOR E` (R456). -/
def execXorE (s : State) : Result := aluA .xor (.reg .e) s

/-- `XOR H` (R456). -/
def execXorH (s : State) : Result := aluA .xor (.reg .h) s

/-- `XOR L` (R456). -/
def execXorL (s : State) : Result := aluA .xor (.reg .l) s

/-- `XOR (HL)` (R456). -/
def execXorAtHl (s : State) : Result := aluA .xor .atHl s

/-- `XOR A` (R456). -/
def execXorA (s : State) : Result := aluA .xor (.reg .a) s

/-- `XOR n8` (R456). -/
def execXorN8 (n : Byte) (s : State) : Result := aluA .xor (.imm n) s

/-- `OR B` (R457). -/
def execOrB (s : State) : Result := aluA .or (.reg .b) s

/-- `OR C` (R457). -/
def execOrC (s : State) : Result := aluA .or (.reg .c) s

/-- `OR D` (R457). -/
def execOrD (s : State) : Result := aluA .or (.reg .d) s

/-- `OR E` (R457). -/
def execOrE (s : State) : Result := aluA .or (.reg .e) s

/-- `OR H` (R457). -/
def execOrH (s : State) : Result := aluA .or (.reg .h) s

/-- `OR L` (R457). -/
def execOrL (s : State) : Result := aluA .or (.reg .l) s

/-- `OR (HL)` (R457). -/
def execOrAtHl (s : State) : Result := aluA .or .atHl s

/-- `OR A` (R457). -/
def execOrA (s : State) : Result := aluA .or (.reg .a) s

/-- `OR n8` (R457). -/
def execOrN8 (n : Byte) (s : State) : Result := aluA .or (.imm n) s

/-- `CP B` (R458). -/
def execCpB (s : State) : Result := aluA .cp (.reg .b) s

/-- `CP C` (R458). -/
def execCpC (s : State) : Result := aluA .cp (.reg .c) s

/-- `CP D` (R458). -/
def execCpD (s : State) : Result := aluA .cp (.reg .d) s

/-- `CP E` (R458). -/
def execCpE (s : State) : Result := aluA .cp (.reg .e) s

/-- `CP H` (R458). -/
def execCpH (s : State) : Result := aluA .cp (.reg .h) s

/-- `CP L` (R458). -/
def execCpL (s : State) : Result := aluA .cp (.reg .l) s

/-- `CP (HL)` (R458). -/
def execCpAtHl (s : State) : Result := aluA .cp .atHl s

/-- `CP A` (R458). -/
def execCpA (s : State) : Result := aluA .cp (.reg .a) s

/-- `CP n8` (R458). -/
def execCpN8 (n : Byte) (s : State) : Result := aluA .cp (.imm n) s

/-- `INC B` (R460). -/
def execIncB (s : State) : Result := incReg .b s

/-- `INC C` (R460). -/
def execIncC (s : State) : Result := incReg .c s

/-- `INC D` (R460). -/
def execIncD (s : State) : Result := incReg .d s

/-- `INC E` (R460). -/
def execIncE (s : State) : Result := incReg .e s

/-- `INC H` (R460). -/
def execIncH (s : State) : Result := incReg .h s

/-- `INC L` (R460). -/
def execIncL (s : State) : Result := incReg .l s

/-- `INC A` (R460). -/
def execIncA (s : State) : Result := incReg .a s

/-- `DEC B` (R461). -/
def execDecB (s : State) : Result := decReg .b s

/-- `DEC C` (R461). -/
def execDecC (s : State) : Result := decReg .c s

/-- `DEC D` (R461). -/
def execDecD (s : State) : Result := decReg .d s

/-- `DEC E` (R461). -/
def execDecE (s : State) : Result := decReg .e s

/-- `DEC H` (R461). -/
def execDecH (s : State) : Result := decReg .h s

/-- `DEC L` (R461). -/
def execDecL (s : State) : Result := decReg .l s

/-- `DEC A` (R461). -/
def execDecA (s : State) : Result := decReg .a s

/-- `INC (HL)` (R462). -/
def execIncAtHl (s : State) : Result := incAtHl s

/-- `DEC (HL)` (R463). -/
def execDecAtHl (s : State) : Result := decAtHl s

/-- `DAA` (R465). -/
def execDaa (s : State) : Result := daaA s

/-- `CPL` (R466). -/
def execCpl (s : State) : Result := cplA s

/-- `SCF` (R467). -/
def execScf (s : State) : Result := setCarry s

/-- `CCF` (R468). -/
def execCcf (s : State) : Result := flipCarry s

end Sys2Proof.Machine
end

