-- ==== Sys2Proof/Machine/Control.lean ====
section
/-! DEFINITION. Sys2Proof/Machine/Control.lean: jumps, calls and returns (44_control.md). The pc of the state is the
address of the next instruction, as in the rules. -/

namespace Sys2Proof.Machine

/-- `pc <- a; cycles <- 4` (R551). -/
def jump (a : Word) (s : State) : Result := done 4 (s.setPc a)

/-- R552. -/
def jumpIf (cc : Cond) (a : Word) (s : State) : Result := if s.cond cc then done 4 (s.setPc a) else done 3 s

/-- `pc <- HL; cycles <- 1` (R553). -/
def jumpHl (s : State) : Result := done 1 (s.setPc s.hl)

/-- `pc <- pc + sext_16(e); cycles <- 3` (R554). -/
def jumpRel (e : Byte) (s : State) : Result := done 3 (s.setPc (s.cpu.pc + sext16 e))

/-- R555. -/
def jumpRelIf (cc : Cond) (e : Byte) (s : State) : Result :=
  if s.cond cc then done 3 (s.setPc (s.cpu.pc + sext16 e)) else done 2 s

/-- `push16(pc); pc <- a; cycles <- 6` (R556). -/
def call (a : Word) (s : State) : Result := done 6 ((push16 s s.cpu.pc).setPc a)

/-- R557. -/
def callIf (cc : Cond) (a : Word) (s : State) : Result :=
  if s.cond cc then done 6 ((push16 s s.cpu.pc).setPc a) else done 3 s

/-- `pc <- pop16(); cycles <- 4` (R558). -/
def ret (s : State) : Result := done 4 ((pop16 s).2.setPc (pop16 s).1)

/-- R559. -/
def retIf (cc : Cond) (s : State) : Result := if s.cond cc then done 5 ((pop16 s).2.setPc (pop16 s).1) else done 2 s

/-- `RETI` (R560). -/
def retInterrupt (s : State) : Result := done 4 (returnFromInterrupt s)

/-- `push16(pc); pc <- t; cycles <- 4` (R561). -/
def restart (t : Word) (s : State) : Result := done 4 ((push16 s s.cpu.pc).setPc t)

/-- `JP n16` (R551). -/
def execJpN16 (n : Word) (s : State) : Result := jump n s

/-- `JP NZ,n16` (R552). -/
def execJpNzN16 (n : Word) (s : State) : Result := jumpIf .nz n s

/-- `JP Z,n16` (R552). -/
def execJpZN16 (n : Word) (s : State) : Result := jumpIf .z n s

/-- `JP NC,n16` (R552). -/
def execJpNcN16 (n : Word) (s : State) : Result := jumpIf .nc n s

/-- `JP C,n16` (R552). -/
def execJpCN16 (n : Word) (s : State) : Result := jumpIf .c n s

/-- `JP HL` (R553). -/
def execJpHl (s : State) : Result := jumpHl s

/-- `JR e8` (R554). -/
def execJrE8 (e : Byte) (s : State) : Result := jumpRel e s

/-- `JR NZ,e8` (R555). -/
def execJrNzE8 (e : Byte) (s : State) : Result := jumpRelIf .nz e s

/-- `JR Z,e8` (R555). -/
def execJrZE8 (e : Byte) (s : State) : Result := jumpRelIf .z e s

/-- `JR NC,e8` (R555). -/
def execJrNcE8 (e : Byte) (s : State) : Result := jumpRelIf .nc e s

/-- `JR C,e8` (R555). -/
def execJrCE8 (e : Byte) (s : State) : Result := jumpRelIf .c e s

/-- `CALL n16` (R556). -/
def execCallN16 (n : Word) (s : State) : Result := call n s

/-- `CALL NZ,n16` (R557). -/
def execCallNzN16 (n : Word) (s : State) : Result := callIf .nz n s

/-- `CALL Z,n16` (R557). -/
def execCallZN16 (n : Word) (s : State) : Result := callIf .z n s

/-- `CALL NC,n16` (R557). -/
def execCallNcN16 (n : Word) (s : State) : Result := callIf .nc n s

/-- `CALL C,n16` (R557). -/
def execCallCN16 (n : Word) (s : State) : Result := callIf .c n s

/-- `RET` (R558). -/
def execRet (s : State) : Result := ret s

/-- `RET NZ` (R559). -/
def execRetNz (s : State) : Result := retIf .nz s

/-- `RET Z` (R559). -/
def execRetZ (s : State) : Result := retIf .z s

/-- `RET NC` (R559). -/
def execRetNc (s : State) : Result := retIf .nc s

/-- `RET C` (R559). -/
def execRetC (s : State) : Result := retIf .c s

/-- `RETI` (R560). -/
def execReti (s : State) : Result := retInterrupt s

/-- `RST 0x00` (R561). -/
def execRst00 (s : State) : Result := restart 0x00#16 s

/-- `RST 0x08` (R561). -/
def execRst08 (s : State) : Result := restart 0x08#16 s

/-- `RST 0x10` (R561). -/
def execRst10 (s : State) : Result := restart 0x10#16 s

/-- `RST 0x18` (R561). -/
def execRst18 (s : State) : Result := restart 0x18#16 s

/-- `RST 0x20` (R561). -/
def execRst20 (s : State) : Result := restart 0x20#16 s

/-- `RST 0x28` (R561). -/
def execRst28 (s : State) : Result := restart 0x28#16 s

/-- `RST 0x30` (R561). -/
def execRst30 (s : State) : Result := restart 0x30#16 s

/-- `RST 0x38` (R561). -/
def execRst38 (s : State) : Result := restart 0x38#16 s

end Sys2Proof.Machine
end

