-- ==== Sys2Proof/Machine/Loads.lean ====
section
/-! DEFINITION. Sys2Proof/Machine/Loads.lean: loads, stores and stack transfers (40_loads.md). No flag changes but by
`POP AF`. -/

namespace Sys2Proof.Machine

/-- `x[r] <- x[r']; cycles <- 1` (R400). -/
def loadReg (dst src : Reg8) (s : State) : Result := done 1 (s.setReg dst (s.getReg src))

/-- `x[r] <- n; cycles <- 2` (R401). -/
def loadImm (dst : Reg8) (n : Byte) (s : State) : Result := done 2 (s.setReg dst n)

/-- `x[r] <- MemRead(HL, 1); cycles <- 2` (R402). -/
def loadAtHl (dst : Reg8) (s : State) : Result := done 2 (s.setReg dst (memRead s s.hl))

/-- `MemWrite(HL, 1, x[r]); cycles <- 2` (R403). -/
def storeAtHl (r : Reg8) (s : State) : Result := done 2 (memWrite s s.hl (s.getReg r))

/-- `MemWrite(HL, 1, n); cycles <- 3` (R404). -/
def storeImm (n : Byte) (s : State) : Result := done 3 (memWrite s s.hl n)

/-- `A <- MemRead(p, 1)`, then HL moves if the pointer form says so; 2 M-cycles (R405, R406, R417, R418). -/
def loadA (p : Pointer) (s : State) : Result :=
  done 2 ((s.setReg .a (memRead s (s.pointer p))).bumpPointer p)

/-- `MemWrite(p, 1, A)`, then HL moves if the pointer form says so; 2 M-cycles (R407, R408, R415, R416). -/
def storeA (p : Pointer) (s : State) : Result := done 2 ((memWrite s (s.pointer p) s.cpu.a).bumpPointer p)

/-- `A <- MemRead(a, 1); cycles <- 4` (R409). -/
def loadAbs (a : Word) (s : State) : Result := done 4 (s.setReg .a (memRead s a))

/-- `MemWrite(a, 1, A); cycles <- 4` (R410). -/
def storeAbs (a : Word) (s : State) : Result := done 4 (memWrite s a s.cpu.a)

/-- `MemWrite(0xFF00 + n, 1, A); cycles <- 3` (R411). -/
def storeHigh (n : Byte) (s : State) : Result := done 3 (memWrite s (highPage n) s.cpu.a)

/-- `A <- MemRead(0xFF00 + n, 1); cycles <- 3` (R412). -/
def loadHigh (n : Byte) (s : State) : Result := done 3 (s.setReg .a (memRead s (highPage n)))

/-- `MemWrite(0xFF00 + C, 1, A); cycles <- 2` (R413). -/
def storeHighC (s : State) : Result := done 2 (memWrite s (highPage s.cpu.c) s.cpu.a)

/-- `A <- MemRead(0xFF00 + C, 1); cycles <- 2` (R414). -/
def loadHighC (s : State) : Result := done 2 (s.setReg .a (memRead s (highPage s.cpu.c)))

/-- `x[dd] <- v; cycles <- 3` (R419). -/
def loadPair (dd : Pair) (v : Word) (s : State) : Result := done 3 (s.setPair dd v)

/-- `MemWrite(a, 1, SP[7:0]); MemWrite(a + 1, 1, SP[15:8]); cycles <- 5` (R420). -/
def storeSp (a : Word) (s : State) : Result := done 5 (memWrite16 s a s.cpu.sp)

/-- `SP <- HL; cycles <- 2` (R421). -/
def loadSp (s : State) : Result := done 2 (s.setSp s.hl)

/-- `push16(x[qq]); cycles <- 4` (R422). -/
def pushPair (qq : StackPair) (s : State) : Result := done 4 (push16 s (s.getStackPair qq))

/-- `x[qq] <- pop16(); cycles <- 3` (R423, R424). -/
def popPair (qq : StackPair) (s : State) : Result := done 3 ((pop16 s).2.setStackPair qq (pop16 s).1)

/-- `LD B,B` (R400). -/
def execLdBB (s : State) : Result := loadReg .b .b s

/-- `LD B,C` (R400). -/
def execLdBC (s : State) : Result := loadReg .b .c s

/-- `LD B,D` (R400). -/
def execLdBD (s : State) : Result := loadReg .b .d s

/-- `LD B,E` (R400). -/
def execLdBE (s : State) : Result := loadReg .b .e s

/-- `LD B,H` (R400). -/
def execLdBH (s : State) : Result := loadReg .b .h s

/-- `LD B,L` (R400). -/
def execLdBL (s : State) : Result := loadReg .b .l s

/-- `LD B,A` (R400). -/
def execLdBA (s : State) : Result := loadReg .b .a s

/-- `LD C,B` (R400). -/
def execLdCB (s : State) : Result := loadReg .c .b s

/-- `LD C,C` (R400). -/
def execLdCC (s : State) : Result := loadReg .c .c s

/-- `LD C,D` (R400). -/
def execLdCD (s : State) : Result := loadReg .c .d s

/-- `LD C,E` (R400). -/
def execLdCE (s : State) : Result := loadReg .c .e s

/-- `LD C,H` (R400). -/
def execLdCH (s : State) : Result := loadReg .c .h s

/-- `LD C,L` (R400). -/
def execLdCL (s : State) : Result := loadReg .c .l s

/-- `LD C,A` (R400). -/
def execLdCA (s : State) : Result := loadReg .c .a s

/-- `LD D,B` (R400). -/
def execLdDB (s : State) : Result := loadReg .d .b s

/-- `LD D,C` (R400). -/
def execLdDC (s : State) : Result := loadReg .d .c s

/-- `LD D,D` (R400). -/
def execLdDD (s : State) : Result := loadReg .d .d s

/-- `LD D,E` (R400). -/
def execLdDE (s : State) : Result := loadReg .d .e s

/-- `LD D,H` (R400). -/
def execLdDH (s : State) : Result := loadReg .d .h s

/-- `LD D,L` (R400). -/
def execLdDL (s : State) : Result := loadReg .d .l s

/-- `LD D,A` (R400). -/
def execLdDA (s : State) : Result := loadReg .d .a s

/-- `LD E,B` (R400). -/
def execLdEB (s : State) : Result := loadReg .e .b s

/-- `LD E,C` (R400). -/
def execLdEC (s : State) : Result := loadReg .e .c s

/-- `LD E,D` (R400). -/
def execLdED (s : State) : Result := loadReg .e .d s

/-- `LD E,E` (R400). -/
def execLdEE (s : State) : Result := loadReg .e .e s

/-- `LD E,H` (R400). -/
def execLdEH (s : State) : Result := loadReg .e .h s

/-- `LD E,L` (R400). -/
def execLdEL (s : State) : Result := loadReg .e .l s

/-- `LD E,A` (R400). -/
def execLdEA (s : State) : Result := loadReg .e .a s

/-- `LD H,B` (R400). -/
def execLdHB (s : State) : Result := loadReg .h .b s

/-- `LD H,C` (R400). -/
def execLdHC (s : State) : Result := loadReg .h .c s

/-- `LD H,D` (R400). -/
def execLdHD (s : State) : Result := loadReg .h .d s

/-- `LD H,E` (R400). -/
def execLdHE (s : State) : Result := loadReg .h .e s

/-- `LD H,H` (R400). -/
def execLdHH (s : State) : Result := loadReg .h .h s

/-- `LD H,L` (R400). -/
def execLdHL (s : State) : Result := loadReg .h .l s

/-- `LD H,A` (R400). -/
def execLdHA (s : State) : Result := loadReg .h .a s

/-- `LD L,B` (R400). -/
def execLdLB (s : State) : Result := loadReg .l .b s

/-- `LD L,C` (R400). -/
def execLdLC (s : State) : Result := loadReg .l .c s

/-- `LD L,D` (R400). -/
def execLdLD (s : State) : Result := loadReg .l .d s

/-- `LD L,E` (R400). -/
def execLdLE (s : State) : Result := loadReg .l .e s

/-- `LD L,H` (R400). -/
def execLdLH (s : State) : Result := loadReg .l .h s

/-- `LD L,L` (R400). -/
def execLdLL (s : State) : Result := loadReg .l .l s

/-- `LD L,A` (R400). -/
def execLdLA (s : State) : Result := loadReg .l .a s

/-- `LD A,B` (R400). -/
def execLdAB (s : State) : Result := loadReg .a .b s

/-- `LD A,C` (R400). -/
def execLdAC (s : State) : Result := loadReg .a .c s

/-- `LD A,D` (R400). -/
def execLdAD (s : State) : Result := loadReg .a .d s

/-- `LD A,E` (R400). -/
def execLdAE (s : State) : Result := loadReg .a .e s

/-- `LD A,H` (R400). -/
def execLdAH (s : State) : Result := loadReg .a .h s

/-- `LD A,L` (R400). -/
def execLdAL (s : State) : Result := loadReg .a .l s

/-- `LD A,A` (R400). -/
def execLdAA (s : State) : Result := loadReg .a .a s

/-- `LD B,n8` (R401). -/
def execLdBN8 (n : Byte) (s : State) : Result := loadImm .b n s

/-- `LD C,n8` (R401). -/
def execLdCN8 (n : Byte) (s : State) : Result := loadImm .c n s

/-- `LD D,n8` (R401). -/
def execLdDN8 (n : Byte) (s : State) : Result := loadImm .d n s

/-- `LD E,n8` (R401). -/
def execLdEN8 (n : Byte) (s : State) : Result := loadImm .e n s

/-- `LD H,n8` (R401). -/
def execLdHN8 (n : Byte) (s : State) : Result := loadImm .h n s

/-- `LD L,n8` (R401). -/
def execLdLN8 (n : Byte) (s : State) : Result := loadImm .l n s

/-- `LD A,n8` (R401). -/
def execLdAN8 (n : Byte) (s : State) : Result := loadImm .a n s

/-- `LD B,(HL)` (R402). -/
def execLdBAtHl (s : State) : Result := loadAtHl .b s

/-- `LD C,(HL)` (R402). -/
def execLdCAtHl (s : State) : Result := loadAtHl .c s

/-- `LD D,(HL)` (R402). -/
def execLdDAtHl (s : State) : Result := loadAtHl .d s

/-- `LD E,(HL)` (R402). -/
def execLdEAtHl (s : State) : Result := loadAtHl .e s

/-- `LD H,(HL)` (R402). -/
def execLdHAtHl (s : State) : Result := loadAtHl .h s

/-- `LD L,(HL)` (R402). -/
def execLdLAtHl (s : State) : Result := loadAtHl .l s

/-- `LD A,(HL)` (R402). -/
def execLdAAtHl (s : State) : Result := loadAtHl .a s

/-- `LD (HL),B` (R403). -/
def execLdAtHlB (s : State) : Result := storeAtHl .b s

/-- `LD (HL),C` (R403). -/
def execLdAtHlC (s : State) : Result := storeAtHl .c s

/-- `LD (HL),D` (R403). -/
def execLdAtHlD (s : State) : Result := storeAtHl .d s

/-- `LD (HL),E` (R403). -/
def execLdAtHlE (s : State) : Result := storeAtHl .e s

/-- `LD (HL),H` (R403). -/
def execLdAtHlH (s : State) : Result := storeAtHl .h s

/-- `LD (HL),L` (R403). -/
def execLdAtHlL (s : State) : Result := storeAtHl .l s

/-- `LD (HL),A` (R403). -/
def execLdAtHlA (s : State) : Result := storeAtHl .a s

/-- `LD (HL),n8` (R404). -/
def execLdAtHlN8 (n : Byte) (s : State) : Result := storeImm n s

/-- `LD A,(BC)` (R405). -/
def execLdAAtBc (s : State) : Result := loadA .bc s

/-- `LD A,(DE)` (R406). -/
def execLdAAtDe (s : State) : Result := loadA .de s

/-- `LD (BC),A` (R407). -/
def execLdAtBcA (s : State) : Result := storeA .bc s

/-- `LD (DE),A` (R408). -/
def execLdAtDeA (s : State) : Result := storeA .de s

/-- `LD A,(n16)` (R409). -/
def execLdAAtN16 (n : Word) (s : State) : Result := loadAbs n s

/-- `LD (n16),A` (R410). -/
def execLdAtN16A (n : Word) (s : State) : Result := storeAbs n s

/-- `LDH (n8),A` (R411). -/
def execLdhAtN8A (n : Byte) (s : State) : Result := storeHigh n s

/-- `LDH A,(n8)` (R412). -/
def execLdhAAtN8 (n : Byte) (s : State) : Result := loadHigh n s

/-- `LD (C),A` (R413). -/
def execLdAtCA (s : State) : Result := storeHighC s

/-- `LD A,(C)` (R414). -/
def execLdAAtC (s : State) : Result := loadHighC s

/-- `LD (HL+),A` (R415). -/
def execLdAtHlIncA (s : State) : Result := storeA .hlInc s

/-- `LD (HL-),A` (R416). -/
def execLdAtHlDecA (s : State) : Result := storeA .hlDec s

/-- `LD A,(HL+)` (R417). -/
def execLdAAtHlInc (s : State) : Result := loadA .hlInc s

/-- `LD A,(HL-)` (R418). -/
def execLdAAtHlDec (s : State) : Result := loadA .hlDec s

/-- `LD BC,n16` (R419). -/
def execLdBcN16 (n : Word) (s : State) : Result := loadPair .bc n s

/-- `LD DE,n16` (R419). -/
def execLdDeN16 (n : Word) (s : State) : Result := loadPair .de n s

/-- `LD HL,n16` (R419). -/
def execLdHlN16 (n : Word) (s : State) : Result := loadPair .hl n s

/-- `LD SP,n16` (R419). -/
def execLdSpN16 (n : Word) (s : State) : Result := loadPair .sp n s

/-- `LD (n16),SP` (R420). -/
def execLdAtN16Sp (n : Word) (s : State) : Result := storeSp n s

/-- `LD SP,HL` (R421). -/
def execLdSpHl (s : State) : Result := loadSp s

/-- `PUSH BC` (R422). -/
def execPushBc (s : State) : Result := pushPair .bc s

/-- `PUSH DE` (R422). -/
def execPushDe (s : State) : Result := pushPair .de s

/-- `PUSH HL` (R422). -/
def execPushHl (s : State) : Result := pushPair .hl s

/-- `PUSH AF` (R422). -/
def execPushAf (s : State) : Result := pushPair .af s

/-- `POP BC` (R423). -/
def execPopBc (s : State) : Result := popPair .bc s

/-- `POP DE` (R423). -/
def execPopDe (s : State) : Result := popPair .de s

/-- `POP HL` (R423). -/
def execPopHl (s : State) : Result := popPair .hl s

/-- `POP AF` (R424). -/
def execPopAf (s : State) : Result := popPair .af s

end Sys2Proof.Machine
end

