-- ==== Sys2Proof/Machine/Rotates.lean ====
section
/-! DEFINITION. Sys2Proof/Machine/Rotates.lean: rotates, shifts and bit operations (43_rotate_shift_bit.md), and the prefix
row (R310). -/

namespace Sys2Proof.Machine

/-- `RLCA`, `RRCA`, `RLA`, `RRA` (R510 to R513). -/
def rotateA (op : ShiftOp) (s : State) : Result :=
  let r := shiftByte op s.cpu.a s.cpu.f.c
  done 1 ((s.setReg .a r.1).setFlags (rotateAFlags r.2))

/-- A rotate or shift of the operand `t` (R514 to R522). -/
def shiftTarget (op : ShiftOp) (t : Target) (s : State) : Result :=
  let r := shiftByte op (s.target t) s.cpu.f.c
  done t.cycles ((s.storeTarget t r.1).setFlags (shiftFlags r.1 r.2))

/-- `BIT b,t` (R525). -/
def testBit (b : Nat) (t : Target) (s : State) : Result :=
  done t.testCycles (s.setFlags (bitFlags b (s.target t) s.cpu.f))

/-- `RES b,t` (R526). -/
def clearBit (b : Nat) (t : Target) (s : State) : Result := done t.cycles (s.storeTarget t (resetBit b (s.target t)))

/-- `SET b,t` (R527). -/
def raiseBit (b : Nat) (t : Target) (s : State) : Result := done t.cycles (s.storeTarget t (setBit b (s.target t)))

/-- The rotate or shift `bbb` of R310. -/
def shiftOpOf (b : Nat) : ShiftOp :=
  match b with
  | 0 => .rlc
  | 1 => .rrc
  | 2 => .rl
  | 3 => .rr
  | 4 => .sla
  | 5 => .sra
  | 6 => .swap
  | _ => .srl

/-- The operand `rrr` of R302. -/
def targetOf (r : Nat) : Target :=
  match r with
  | 0 => .reg .b
  | 1 => .reg .c
  | 2 => .reg .d
  | 3 => .reg .e
  | 4 => .reg .h
  | 5 => .reg .l
  | 6 => .atHl
  | _ => .reg .a

/-- The instruction `0xCB op2` by the fields `gg bbb rrr` of `op2` (R310). -/
def prefixed (op2 : Byte) (s : State) : Result :=
  let b := field op2 5 3
  let t := targetOf (field op2 2 0)
  match field op2 7 6 with
  | 0 => shiftTarget (shiftOpOf b) t s
  | 1 => testBit b t s
  | 2 => clearBit b t s
  | _ => raiseBit b t s

/-- `PREFIX CB` (R310). -/
def execPrefixCb (op2 : Byte) (s : State) : Result := prefixed op2 s

/-- `RLCA` (R510). -/
def execRlca (s : State) : Result := rotateA .rlc s

/-- `RRCA` (R511). -/
def execRrca (s : State) : Result := rotateA .rrc s

/-- `RLA` (R512). -/
def execRla (s : State) : Result := rotateA .rl s

/-- `RRA` (R513). -/
def execRra (s : State) : Result := rotateA .rr s

/-- `RLC B` (R515). -/
def execRlcB (s : State) : Result := shiftTarget .rlc (.reg .b) s

/-- `RLC C` (R515). -/
def execRlcC (s : State) : Result := shiftTarget .rlc (.reg .c) s

/-- `RLC D` (R515). -/
def execRlcD (s : State) : Result := shiftTarget .rlc (.reg .d) s

/-- `RLC E` (R515). -/
def execRlcE (s : State) : Result := shiftTarget .rlc (.reg .e) s

/-- `RLC H` (R515). -/
def execRlcH (s : State) : Result := shiftTarget .rlc (.reg .h) s

/-- `RLC L` (R515). -/
def execRlcL (s : State) : Result := shiftTarget .rlc (.reg .l) s

/-- `RLC (HL)` (R515). -/
def execRlcAtHl (s : State) : Result := shiftTarget .rlc .atHl s

/-- `RLC A` (R515). -/
def execRlcA (s : State) : Result := shiftTarget .rlc (.reg .a) s

/-- `RRC B` (R516). -/
def execRrcB (s : State) : Result := shiftTarget .rrc (.reg .b) s

/-- `RRC C` (R516). -/
def execRrcC (s : State) : Result := shiftTarget .rrc (.reg .c) s

/-- `RRC D` (R516). -/
def execRrcD (s : State) : Result := shiftTarget .rrc (.reg .d) s

/-- `RRC E` (R516). -/
def execRrcE (s : State) : Result := shiftTarget .rrc (.reg .e) s

/-- `RRC H` (R516). -/
def execRrcH (s : State) : Result := shiftTarget .rrc (.reg .h) s

/-- `RRC L` (R516). -/
def execRrcL (s : State) : Result := shiftTarget .rrc (.reg .l) s

/-- `RRC (HL)` (R516). -/
def execRrcAtHl (s : State) : Result := shiftTarget .rrc .atHl s

/-- `RRC A` (R516). -/
def execRrcA (s : State) : Result := shiftTarget .rrc (.reg .a) s

/-- `RL B` (R517). -/
def execRlB (s : State) : Result := shiftTarget .rl (.reg .b) s

/-- `RL C` (R517). -/
def execRlC (s : State) : Result := shiftTarget .rl (.reg .c) s

/-- `RL D` (R517). -/
def execRlD (s : State) : Result := shiftTarget .rl (.reg .d) s

/-- `RL E` (R517). -/
def execRlE (s : State) : Result := shiftTarget .rl (.reg .e) s

/-- `RL H` (R517). -/
def execRlH (s : State) : Result := shiftTarget .rl (.reg .h) s

/-- `RL L` (R517). -/
def execRlL (s : State) : Result := shiftTarget .rl (.reg .l) s

/-- `RL (HL)` (R517). -/
def execRlAtHl (s : State) : Result := shiftTarget .rl .atHl s

/-- `RL A` (R517). -/
def execRlA (s : State) : Result := shiftTarget .rl (.reg .a) s

/-- `RR B` (R518). -/
def execRrB (s : State) : Result := shiftTarget .rr (.reg .b) s

/-- `RR C` (R518). -/
def execRrC (s : State) : Result := shiftTarget .rr (.reg .c) s

/-- `RR D` (R518). -/
def execRrD (s : State) : Result := shiftTarget .rr (.reg .d) s

/-- `RR E` (R518). -/
def execRrE (s : State) : Result := shiftTarget .rr (.reg .e) s

/-- `RR H` (R518). -/
def execRrH (s : State) : Result := shiftTarget .rr (.reg .h) s

/-- `RR L` (R518). -/
def execRrL (s : State) : Result := shiftTarget .rr (.reg .l) s

/-- `RR (HL)` (R518). -/
def execRrAtHl (s : State) : Result := shiftTarget .rr .atHl s

/-- `RR A` (R518). -/
def execRrA (s : State) : Result := shiftTarget .rr (.reg .a) s

/-- `SLA B` (R519). -/
def execSlaB (s : State) : Result := shiftTarget .sla (.reg .b) s

/-- `SLA C` (R519). -/
def execSlaC (s : State) : Result := shiftTarget .sla (.reg .c) s

/-- `SLA D` (R519). -/
def execSlaD (s : State) : Result := shiftTarget .sla (.reg .d) s

/-- `SLA E` (R519). -/
def execSlaE (s : State) : Result := shiftTarget .sla (.reg .e) s

/-- `SLA H` (R519). -/
def execSlaH (s : State) : Result := shiftTarget .sla (.reg .h) s

/-- `SLA L` (R519). -/
def execSlaL (s : State) : Result := shiftTarget .sla (.reg .l) s

/-- `SLA (HL)` (R519). -/
def execSlaAtHl (s : State) : Result := shiftTarget .sla .atHl s

/-- `SLA A` (R519). -/
def execSlaA (s : State) : Result := shiftTarget .sla (.reg .a) s

/-- `SRA B` (R520). -/
def execSraB (s : State) : Result := shiftTarget .sra (.reg .b) s

/-- `SRA C` (R520). -/
def execSraC (s : State) : Result := shiftTarget .sra (.reg .c) s

/-- `SRA D` (R520). -/
def execSraD (s : State) : Result := shiftTarget .sra (.reg .d) s

/-- `SRA E` (R520). -/
def execSraE (s : State) : Result := shiftTarget .sra (.reg .e) s

/-- `SRA H` (R520). -/
def execSraH (s : State) : Result := shiftTarget .sra (.reg .h) s

/-- `SRA L` (R520). -/
def execSraL (s : State) : Result := shiftTarget .sra (.reg .l) s

/-- `SRA (HL)` (R520). -/
def execSraAtHl (s : State) : Result := shiftTarget .sra .atHl s

/-- `SRA A` (R520). -/
def execSraA (s : State) : Result := shiftTarget .sra (.reg .a) s

/-- `SWAP B` (R521). -/
def execSwapB (s : State) : Result := shiftTarget .swap (.reg .b) s

/-- `SWAP C` (R521). -/
def execSwapC (s : State) : Result := shiftTarget .swap (.reg .c) s

/-- `SWAP D` (R521). -/
def execSwapD (s : State) : Result := shiftTarget .swap (.reg .d) s

/-- `SWAP E` (R521). -/
def execSwapE (s : State) : Result := shiftTarget .swap (.reg .e) s

/-- `SWAP H` (R521). -/
def execSwapH (s : State) : Result := shiftTarget .swap (.reg .h) s

/-- `SWAP L` (R521). -/
def execSwapL (s : State) : Result := shiftTarget .swap (.reg .l) s

/-- `SWAP (HL)` (R521). -/
def execSwapAtHl (s : State) : Result := shiftTarget .swap .atHl s

/-- `SWAP A` (R521). -/
def execSwapA (s : State) : Result := shiftTarget .swap (.reg .a) s

/-- `SRL B` (R522). -/
def execSrlB (s : State) : Result := shiftTarget .srl (.reg .b) s

/-- `SRL C` (R522). -/
def execSrlC (s : State) : Result := shiftTarget .srl (.reg .c) s

/-- `SRL D` (R522). -/
def execSrlD (s : State) : Result := shiftTarget .srl (.reg .d) s

/-- `SRL E` (R522). -/
def execSrlE (s : State) : Result := shiftTarget .srl (.reg .e) s

/-- `SRL H` (R522). -/
def execSrlH (s : State) : Result := shiftTarget .srl (.reg .h) s

/-- `SRL L` (R522). -/
def execSrlL (s : State) : Result := shiftTarget .srl (.reg .l) s

/-- `SRL (HL)` (R522). -/
def execSrlAtHl (s : State) : Result := shiftTarget .srl .atHl s

/-- `SRL A` (R522). -/
def execSrlA (s : State) : Result := shiftTarget .srl (.reg .a) s

/-- `BIT 0,B` (R525). -/
def execBit0B (s : State) : Result := testBit 0 (.reg .b) s

/-- `BIT 0,C` (R525). -/
def execBit0C (s : State) : Result := testBit 0 (.reg .c) s

/-- `BIT 0,D` (R525). -/
def execBit0D (s : State) : Result := testBit 0 (.reg .d) s

/-- `BIT 0,E` (R525). -/
def execBit0E (s : State) : Result := testBit 0 (.reg .e) s

/-- `BIT 0,H` (R525). -/
def execBit0H (s : State) : Result := testBit 0 (.reg .h) s

/-- `BIT 0,L` (R525). -/
def execBit0L (s : State) : Result := testBit 0 (.reg .l) s

/-- `BIT 0,(HL)` (R525). -/
def execBit0AtHl (s : State) : Result := testBit 0 .atHl s

/-- `BIT 0,A` (R525). -/
def execBit0A (s : State) : Result := testBit 0 (.reg .a) s

/-- `BIT 1,B` (R525). -/
def execBit1B (s : State) : Result := testBit 1 (.reg .b) s

/-- `BIT 1,C` (R525). -/
def execBit1C (s : State) : Result := testBit 1 (.reg .c) s

/-- `BIT 1,D` (R525). -/
def execBit1D (s : State) : Result := testBit 1 (.reg .d) s

/-- `BIT 1,E` (R525). -/
def execBit1E (s : State) : Result := testBit 1 (.reg .e) s

/-- `BIT 1,H` (R525). -/
def execBit1H (s : State) : Result := testBit 1 (.reg .h) s

/-- `BIT 1,L` (R525). -/
def execBit1L (s : State) : Result := testBit 1 (.reg .l) s

/-- `BIT 1,(HL)` (R525). -/
def execBit1AtHl (s : State) : Result := testBit 1 .atHl s

/-- `BIT 1,A` (R525). -/
def execBit1A (s : State) : Result := testBit 1 (.reg .a) s

/-- `BIT 2,B` (R525). -/
def execBit2B (s : State) : Result := testBit 2 (.reg .b) s

/-- `BIT 2,C` (R525). -/
def execBit2C (s : State) : Result := testBit 2 (.reg .c) s

/-- `BIT 2,D` (R525). -/
def execBit2D (s : State) : Result := testBit 2 (.reg .d) s

/-- `BIT 2,E` (R525). -/
def execBit2E (s : State) : Result := testBit 2 (.reg .e) s

/-- `BIT 2,H` (R525). -/
def execBit2H (s : State) : Result := testBit 2 (.reg .h) s

/-- `BIT 2,L` (R525). -/
def execBit2L (s : State) : Result := testBit 2 (.reg .l) s

/-- `BIT 2,(HL)` (R525). -/
def execBit2AtHl (s : State) : Result := testBit 2 .atHl s

/-- `BIT 2,A` (R525). -/
def execBit2A (s : State) : Result := testBit 2 (.reg .a) s

/-- `BIT 3,B` (R525). -/
def execBit3B (s : State) : Result := testBit 3 (.reg .b) s

/-- `BIT 3,C` (R525). -/
def execBit3C (s : State) : Result := testBit 3 (.reg .c) s

/-- `BIT 3,D` (R525). -/
def execBit3D (s : State) : Result := testBit 3 (.reg .d) s

/-- `BIT 3,E` (R525). -/
def execBit3E (s : State) : Result := testBit 3 (.reg .e) s

/-- `BIT 3,H` (R525). -/
def execBit3H (s : State) : Result := testBit 3 (.reg .h) s

/-- `BIT 3,L` (R525). -/
def execBit3L (s : State) : Result := testBit 3 (.reg .l) s

/-- `BIT 3,(HL)` (R525). -/
def execBit3AtHl (s : State) : Result := testBit 3 .atHl s

/-- `BIT 3,A` (R525). -/
def execBit3A (s : State) : Result := testBit 3 (.reg .a) s

/-- `BIT 4,B` (R525). -/
def execBit4B (s : State) : Result := testBit 4 (.reg .b) s

/-- `BIT 4,C` (R525). -/
def execBit4C (s : State) : Result := testBit 4 (.reg .c) s

/-- `BIT 4,D` (R525). -/
def execBit4D (s : State) : Result := testBit 4 (.reg .d) s

/-- `BIT 4,E` (R525). -/
def execBit4E (s : State) : Result := testBit 4 (.reg .e) s

/-- `BIT 4,H` (R525). -/
def execBit4H (s : State) : Result := testBit 4 (.reg .h) s

/-- `BIT 4,L` (R525). -/
def execBit4L (s : State) : Result := testBit 4 (.reg .l) s

/-- `BIT 4,(HL)` (R525). -/
def execBit4AtHl (s : State) : Result := testBit 4 .atHl s

/-- `BIT 4,A` (R525). -/
def execBit4A (s : State) : Result := testBit 4 (.reg .a) s

/-- `BIT 5,B` (R525). -/
def execBit5B (s : State) : Result := testBit 5 (.reg .b) s

/-- `BIT 5,C` (R525). -/
def execBit5C (s : State) : Result := testBit 5 (.reg .c) s

/-- `BIT 5,D` (R525). -/
def execBit5D (s : State) : Result := testBit 5 (.reg .d) s

/-- `BIT 5,E` (R525). -/
def execBit5E (s : State) : Result := testBit 5 (.reg .e) s

/-- `BIT 5,H` (R525). -/
def execBit5H (s : State) : Result := testBit 5 (.reg .h) s

/-- `BIT 5,L` (R525). -/
def execBit5L (s : State) : Result := testBit 5 (.reg .l) s

/-- `BIT 5,(HL)` (R525). -/
def execBit5AtHl (s : State) : Result := testBit 5 .atHl s

/-- `BIT 5,A` (R525). -/
def execBit5A (s : State) : Result := testBit 5 (.reg .a) s

/-- `BIT 6,B` (R525). -/
def execBit6B (s : State) : Result := testBit 6 (.reg .b) s

/-- `BIT 6,C` (R525). -/
def execBit6C (s : State) : Result := testBit 6 (.reg .c) s

/-- `BIT 6,D` (R525). -/
def execBit6D (s : State) : Result := testBit 6 (.reg .d) s

/-- `BIT 6,E` (R525). -/
def execBit6E (s : State) : Result := testBit 6 (.reg .e) s

/-- `BIT 6,H` (R525). -/
def execBit6H (s : State) : Result := testBit 6 (.reg .h) s

/-- `BIT 6,L` (R525). -/
def execBit6L (s : State) : Result := testBit 6 (.reg .l) s

/-- `BIT 6,(HL)` (R525). -/
def execBit6AtHl (s : State) : Result := testBit 6 .atHl s

/-- `BIT 6,A` (R525). -/
def execBit6A (s : State) : Result := testBit 6 (.reg .a) s

/-- `BIT 7,B` (R525). -/
def execBit7B (s : State) : Result := testBit 7 (.reg .b) s

/-- `BIT 7,C` (R525). -/
def execBit7C (s : State) : Result := testBit 7 (.reg .c) s

/-- `BIT 7,D` (R525). -/
def execBit7D (s : State) : Result := testBit 7 (.reg .d) s

/-- `BIT 7,E` (R525). -/
def execBit7E (s : State) : Result := testBit 7 (.reg .e) s

/-- `BIT 7,H` (R525). -/
def execBit7H (s : State) : Result := testBit 7 (.reg .h) s

/-- `BIT 7,L` (R525). -/
def execBit7L (s : State) : Result := testBit 7 (.reg .l) s

/-- `BIT 7,(HL)` (R525). -/
def execBit7AtHl (s : State) : Result := testBit 7 .atHl s

/-- `BIT 7,A` (R525). -/
def execBit7A (s : State) : Result := testBit 7 (.reg .a) s

/-- `RES 0,B` (R526). -/
def execRes0B (s : State) : Result := clearBit 0 (.reg .b) s

/-- `RES 0,C` (R526). -/
def execRes0C (s : State) : Result := clearBit 0 (.reg .c) s

/-- `RES 0,D` (R526). -/
def execRes0D (s : State) : Result := clearBit 0 (.reg .d) s

/-- `RES 0,E` (R526). -/
def execRes0E (s : State) : Result := clearBit 0 (.reg .e) s

/-- `RES 0,H` (R526). -/
def execRes0H (s : State) : Result := clearBit 0 (.reg .h) s

/-- `RES 0,L` (R526). -/
def execRes0L (s : State) : Result := clearBit 0 (.reg .l) s

/-- `RES 0,(HL)` (R526). -/
def execRes0AtHl (s : State) : Result := clearBit 0 .atHl s

/-- `RES 0,A` (R526). -/
def execRes0A (s : State) : Result := clearBit 0 (.reg .a) s

/-- `RES 1,B` (R526). -/
def execRes1B (s : State) : Result := clearBit 1 (.reg .b) s

/-- `RES 1,C` (R526). -/
def execRes1C (s : State) : Result := clearBit 1 (.reg .c) s

/-- `RES 1,D` (R526). -/
def execRes1D (s : State) : Result := clearBit 1 (.reg .d) s

/-- `RES 1,E` (R526). -/
def execRes1E (s : State) : Result := clearBit 1 (.reg .e) s

/-- `RES 1,H` (R526). -/
def execRes1H (s : State) : Result := clearBit 1 (.reg .h) s

/-- `RES 1,L` (R526). -/
def execRes1L (s : State) : Result := clearBit 1 (.reg .l) s

/-- `RES 1,(HL)` (R526). -/
def execRes1AtHl (s : State) : Result := clearBit 1 .atHl s

/-- `RES 1,A` (R526). -/
def execRes1A (s : State) : Result := clearBit 1 (.reg .a) s

/-- `RES 2,B` (R526). -/
def execRes2B (s : State) : Result := clearBit 2 (.reg .b) s

/-- `RES 2,C` (R526). -/
def execRes2C (s : State) : Result := clearBit 2 (.reg .c) s

/-- `RES 2,D` (R526). -/
def execRes2D (s : State) : Result := clearBit 2 (.reg .d) s

/-- `RES 2,E` (R526). -/
def execRes2E (s : State) : Result := clearBit 2 (.reg .e) s

/-- `RES 2,H` (R526). -/
def execRes2H (s : State) : Result := clearBit 2 (.reg .h) s

/-- `RES 2,L` (R526). -/
def execRes2L (s : State) : Result := clearBit 2 (.reg .l) s

/-- `RES 2,(HL)` (R526). -/
def execRes2AtHl (s : State) : Result := clearBit 2 .atHl s

/-- `RES 2,A` (R526). -/
def execRes2A (s : State) : Result := clearBit 2 (.reg .a) s

/-- `RES 3,B` (R526). -/
def execRes3B (s : State) : Result := clearBit 3 (.reg .b) s

/-- `RES 3,C` (R526). -/
def execRes3C (s : State) : Result := clearBit 3 (.reg .c) s

/-- `RES 3,D` (R526). -/
def execRes3D (s : State) : Result := clearBit 3 (.reg .d) s

/-- `RES 3,E` (R526). -/
def execRes3E (s : State) : Result := clearBit 3 (.reg .e) s

/-- `RES 3,H` (R526). -/
def execRes3H (s : State) : Result := clearBit 3 (.reg .h) s

/-- `RES 3,L` (R526). -/
def execRes3L (s : State) : Result := clearBit 3 (.reg .l) s

/-- `RES 3,(HL)` (R526). -/
def execRes3AtHl (s : State) : Result := clearBit 3 .atHl s

/-- `RES 3,A` (R526). -/
def execRes3A (s : State) : Result := clearBit 3 (.reg .a) s

/-- `RES 4,B` (R526). -/
def execRes4B (s : State) : Result := clearBit 4 (.reg .b) s

/-- `RES 4,C` (R526). -/
def execRes4C (s : State) : Result := clearBit 4 (.reg .c) s

/-- `RES 4,D` (R526). -/
def execRes4D (s : State) : Result := clearBit 4 (.reg .d) s

/-- `RES 4,E` (R526). -/
def execRes4E (s : State) : Result := clearBit 4 (.reg .e) s

/-- `RES 4,H` (R526). -/
def execRes4H (s : State) : Result := clearBit 4 (.reg .h) s

/-- `RES 4,L` (R526). -/
def execRes4L (s : State) : Result := clearBit 4 (.reg .l) s

/-- `RES 4,(HL)` (R526). -/
def execRes4AtHl (s : State) : Result := clearBit 4 .atHl s

/-- `RES 4,A` (R526). -/
def execRes4A (s : State) : Result := clearBit 4 (.reg .a) s

/-- `RES 5,B` (R526). -/
def execRes5B (s : State) : Result := clearBit 5 (.reg .b) s

/-- `RES 5,C` (R526). -/
def execRes5C (s : State) : Result := clearBit 5 (.reg .c) s

/-- `RES 5,D` (R526). -/
def execRes5D (s : State) : Result := clearBit 5 (.reg .d) s

/-- `RES 5,E` (R526). -/
def execRes5E (s : State) : Result := clearBit 5 (.reg .e) s

/-- `RES 5,H` (R526). -/
def execRes5H (s : State) : Result := clearBit 5 (.reg .h) s

/-- `RES 5,L` (R526). -/
def execRes5L (s : State) : Result := clearBit 5 (.reg .l) s

/-- `RES 5,(HL)` (R526). -/
def execRes5AtHl (s : State) : Result := clearBit 5 .atHl s

/-- `RES 5,A` (R526). -/
def execRes5A (s : State) : Result := clearBit 5 (.reg .a) s

/-- `RES 6,B` (R526). -/
def execRes6B (s : State) : Result := clearBit 6 (.reg .b) s

/-- `RES 6,C` (R526). -/
def execRes6C (s : State) : Result := clearBit 6 (.reg .c) s

/-- `RES 6,D` (R526). -/
def execRes6D (s : State) : Result := clearBit 6 (.reg .d) s

/-- `RES 6,E` (R526). -/
def execRes6E (s : State) : Result := clearBit 6 (.reg .e) s

/-- `RES 6,H` (R526). -/
def execRes6H (s : State) : Result := clearBit 6 (.reg .h) s

/-- `RES 6,L` (R526). -/
def execRes6L (s : State) : Result := clearBit 6 (.reg .l) s

/-- `RES 6,(HL)` (R526). -/
def execRes6AtHl (s : State) : Result := clearBit 6 .atHl s

/-- `RES 6,A` (R526). -/
def execRes6A (s : State) : Result := clearBit 6 (.reg .a) s

/-- `RES 7,B` (R526). -/
def execRes7B (s : State) : Result := clearBit 7 (.reg .b) s

/-- `RES 7,C` (R526). -/
def execRes7C (s : State) : Result := clearBit 7 (.reg .c) s

/-- `RES 7,D` (R526). -/
def execRes7D (s : State) : Result := clearBit 7 (.reg .d) s

/-- `RES 7,E` (R526). -/
def execRes7E (s : State) : Result := clearBit 7 (.reg .e) s

/-- `RES 7,H` (R526). -/
def execRes7H (s : State) : Result := clearBit 7 (.reg .h) s

/-- `RES 7,L` (R526). -/
def execRes7L (s : State) : Result := clearBit 7 (.reg .l) s

/-- `RES 7,(HL)` (R526). -/
def execRes7AtHl (s : State) : Result := clearBit 7 .atHl s

/-- `RES 7,A` (R526). -/
def execRes7A (s : State) : Result := clearBit 7 (.reg .a) s

/-- `SET 0,B` (R527). -/
def execSet0B (s : State) : Result := raiseBit 0 (.reg .b) s

/-- `SET 0,C` (R527). -/
def execSet0C (s : State) : Result := raiseBit 0 (.reg .c) s

/-- `SET 0,D` (R527). -/
def execSet0D (s : State) : Result := raiseBit 0 (.reg .d) s

/-- `SET 0,E` (R527). -/
def execSet0E (s : State) : Result := raiseBit 0 (.reg .e) s

/-- `SET 0,H` (R527). -/
def execSet0H (s : State) : Result := raiseBit 0 (.reg .h) s

/-- `SET 0,L` (R527). -/
def execSet0L (s : State) : Result := raiseBit 0 (.reg .l) s

/-- `SET 0,(HL)` (R527). -/
def execSet0AtHl (s : State) : Result := raiseBit 0 .atHl s

/-- `SET 0,A` (R527). -/
def execSet0A (s : State) : Result := raiseBit 0 (.reg .a) s

/-- `SET 1,B` (R527). -/
def execSet1B (s : State) : Result := raiseBit 1 (.reg .b) s

/-- `SET 1,C` (R527). -/
def execSet1C (s : State) : Result := raiseBit 1 (.reg .c) s

/-- `SET 1,D` (R527). -/
def execSet1D (s : State) : Result := raiseBit 1 (.reg .d) s

/-- `SET 1,E` (R527). -/
def execSet1E (s : State) : Result := raiseBit 1 (.reg .e) s

/-- `SET 1,H` (R527). -/
def execSet1H (s : State) : Result := raiseBit 1 (.reg .h) s

/-- `SET 1,L` (R527). -/
def execSet1L (s : State) : Result := raiseBit 1 (.reg .l) s

/-- `SET 1,(HL)` (R527). -/
def execSet1AtHl (s : State) : Result := raiseBit 1 .atHl s

/-- `SET 1,A` (R527). -/
def execSet1A (s : State) : Result := raiseBit 1 (.reg .a) s

/-- `SET 2,B` (R527). -/
def execSet2B (s : State) : Result := raiseBit 2 (.reg .b) s

/-- `SET 2,C` (R527). -/
def execSet2C (s : State) : Result := raiseBit 2 (.reg .c) s

/-- `SET 2,D` (R527). -/
def execSet2D (s : State) : Result := raiseBit 2 (.reg .d) s

/-- `SET 2,E` (R527). -/
def execSet2E (s : State) : Result := raiseBit 2 (.reg .e) s

/-- `SET 2,H` (R527). -/
def execSet2H (s : State) : Result := raiseBit 2 (.reg .h) s

/-- `SET 2,L` (R527). -/
def execSet2L (s : State) : Result := raiseBit 2 (.reg .l) s

/-- `SET 2,(HL)` (R527). -/
def execSet2AtHl (s : State) : Result := raiseBit 2 .atHl s

/-- `SET 2,A` (R527). -/
def execSet2A (s : State) : Result := raiseBit 2 (.reg .a) s

/-- `SET 3,B` (R527). -/
def execSet3B (s : State) : Result := raiseBit 3 (.reg .b) s

/-- `SET 3,C` (R527). -/
def execSet3C (s : State) : Result := raiseBit 3 (.reg .c) s

/-- `SET 3,D` (R527). -/
def execSet3D (s : State) : Result := raiseBit 3 (.reg .d) s

/-- `SET 3,E` (R527). -/
def execSet3E (s : State) : Result := raiseBit 3 (.reg .e) s

/-- `SET 3,H` (R527). -/
def execSet3H (s : State) : Result := raiseBit 3 (.reg .h) s

/-- `SET 3,L` (R527). -/
def execSet3L (s : State) : Result := raiseBit 3 (.reg .l) s

/-- `SET 3,(HL)` (R527). -/
def execSet3AtHl (s : State) : Result := raiseBit 3 .atHl s

/-- `SET 3,A` (R527). -/
def execSet3A (s : State) : Result := raiseBit 3 (.reg .a) s

/-- `SET 4,B` (R527). -/
def execSet4B (s : State) : Result := raiseBit 4 (.reg .b) s

/-- `SET 4,C` (R527). -/
def execSet4C (s : State) : Result := raiseBit 4 (.reg .c) s

/-- `SET 4,D` (R527). -/
def execSet4D (s : State) : Result := raiseBit 4 (.reg .d) s

/-- `SET 4,E` (R527). -/
def execSet4E (s : State) : Result := raiseBit 4 (.reg .e) s

/-- `SET 4,H` (R527). -/
def execSet4H (s : State) : Result := raiseBit 4 (.reg .h) s

/-- `SET 4,L` (R527). -/
def execSet4L (s : State) : Result := raiseBit 4 (.reg .l) s

/-- `SET 4,(HL)` (R527). -/
def execSet4AtHl (s : State) : Result := raiseBit 4 .atHl s

/-- `SET 4,A` (R527). -/
def execSet4A (s : State) : Result := raiseBit 4 (.reg .a) s

/-- `SET 5,B` (R527). -/
def execSet5B (s : State) : Result := raiseBit 5 (.reg .b) s

/-- `SET 5,C` (R527). -/
def execSet5C (s : State) : Result := raiseBit 5 (.reg .c) s

/-- `SET 5,D` (R527). -/
def execSet5D (s : State) : Result := raiseBit 5 (.reg .d) s

/-- `SET 5,E` (R527). -/
def execSet5E (s : State) : Result := raiseBit 5 (.reg .e) s

/-- `SET 5,H` (R527). -/
def execSet5H (s : State) : Result := raiseBit 5 (.reg .h) s

/-- `SET 5,L` (R527). -/
def execSet5L (s : State) : Result := raiseBit 5 (.reg .l) s

/-- `SET 5,(HL)` (R527). -/
def execSet5AtHl (s : State) : Result := raiseBit 5 .atHl s

/-- `SET 5,A` (R527). -/
def execSet5A (s : State) : Result := raiseBit 5 (.reg .a) s

/-- `SET 6,B` (R527). -/
def execSet6B (s : State) : Result := raiseBit 6 (.reg .b) s

/-- `SET 6,C` (R527). -/
def execSet6C (s : State) : Result := raiseBit 6 (.reg .c) s

/-- `SET 6,D` (R527). -/
def execSet6D (s : State) : Result := raiseBit 6 (.reg .d) s

/-- `SET 6,E` (R527). -/
def execSet6E (s : State) : Result := raiseBit 6 (.reg .e) s

/-- `SET 6,H` (R527). -/
def execSet6H (s : State) : Result := raiseBit 6 (.reg .h) s

/-- `SET 6,L` (R527). -/
def execSet6L (s : State) : Result := raiseBit 6 (.reg .l) s

/-- `SET 6,(HL)` (R527). -/
def execSet6AtHl (s : State) : Result := raiseBit 6 .atHl s

/-- `SET 6,A` (R527). -/
def execSet6A (s : State) : Result := raiseBit 6 (.reg .a) s

/-- `SET 7,B` (R527). -/
def execSet7B (s : State) : Result := raiseBit 7 (.reg .b) s

/-- `SET 7,C` (R527). -/
def execSet7C (s : State) : Result := raiseBit 7 (.reg .c) s

/-- `SET 7,D` (R527). -/
def execSet7D (s : State) : Result := raiseBit 7 (.reg .d) s

/-- `SET 7,E` (R527). -/
def execSet7E (s : State) : Result := raiseBit 7 (.reg .e) s

/-- `SET 7,H` (R527). -/
def execSet7H (s : State) : Result := raiseBit 7 (.reg .h) s

/-- `SET 7,L` (R527). -/
def execSet7L (s : State) : Result := raiseBit 7 (.reg .l) s

/-- `SET 7,(HL)` (R527). -/
def execSet7AtHl (s : State) : Result := raiseBit 7 .atHl s

/-- `SET 7,A` (R527). -/
def execSet7A (s : State) : Result := raiseBit 7 (.reg .a) s

end Sys2Proof.Machine
end

