-- ==== Sys2Proof/Machine/System.lean ====
section
/-! DEFINITION. Sys2Proof/Machine/System.lean: processor control (45_system.md) and the undefined opcodes (R340). -/

namespace Sys2Proof.Machine

/-- `cycles <- 1` (R580). -/
def noOperation (s : State) : Result := done 1 s

/-- `HALT`: arm the halt bug when IME is 0 and an enabled interrupt is pending, else halt (R581). -/
def enterHalt (s : State) : Result :=
  if s.cpu.ime = false ∧ s.pending ≠ 0#5 then done 1 { s with cpu := { s.cpu with haltBug := true } }
  else done 1 { s with cpu := { s.cpu with halted := true } }

/-- `div_reset(); stopped <- 1; cycles <- 1` (R584); the second byte is ignored (R301). -/
def enterStop (s : State) : Result :=
  let s := divReset s
  done 1 { s with cpu := { s.cpu with stopped := true } }

/-- `if IME = 0 and ime_delay = 0 then ime_delay <- 2; cycles <- 1` (R585). -/
def enableInterrupts (s : State) : Result :=
  if s.cpu.ime = false ∧ s.cpu.imeDelay = 0 then done 1 { s with cpu := { s.cpu with imeDelay := 2 } } else done 1 s

/-- `IME <- 0; ime_delay <- 0; cycles <- 1` (R586). -/
def disableInterrupts (s : State) : Result := done 1 { s with cpu := { s.cpu with ime := false, imeDelay := 0 } }

/-- `raise Fatal(UndefinedOpcode(op, addr))` (R340, R802): recorded in the state; the run has ended, so the next step
faults (log 1). -/
def undefinedOpcode (op : Byte) (s : State) : Result := .next (raiseUndefined op s)

/-- `NOP` (R580). -/
def execNop (s : State) : Result := noOperation s

/-- `HALT` (R581). -/
def execHalt (s : State) : Result := enterHalt s

/-- `STOP` (R584). -/
def execStop (_x : Byte) (s : State) : Result := enterStop s

/-- `EI` (R585). -/
def execEi (s : State) : Result := enableInterrupts s

/-- `DI` (R586). -/
def execDi (s : State) : Result := disableInterrupts s

/-- Opcode 0xD3, undefined (R340). -/
def execUndefD3 (s : State) : Result := undefinedOpcode 0xD3#8 s

/-- Opcode 0xDB, undefined (R340). -/
def execUndefDB (s : State) : Result := undefinedOpcode 0xDB#8 s

/-- Opcode 0xDD, undefined (R340). -/
def execUndefDD (s : State) : Result := undefinedOpcode 0xDD#8 s

/-- Opcode 0xE3, undefined (R340). -/
def execUndefE3 (s : State) : Result := undefinedOpcode 0xE3#8 s

/-- Opcode 0xE4, undefined (R340). -/
def execUndefE4 (s : State) : Result := undefinedOpcode 0xE4#8 s

/-- Opcode 0xEB, undefined (R340). -/
def execUndefEB (s : State) : Result := undefinedOpcode 0xEB#8 s

/-- Opcode 0xEC, undefined (R340). -/
def execUndefEC (s : State) : Result := undefinedOpcode 0xEC#8 s

/-- Opcode 0xED, undefined (R340). -/
def execUndefED (s : State) : Result := undefinedOpcode 0xED#8 s

/-- Opcode 0xF4, undefined (R340). -/
def execUndefF4 (s : State) : Result := undefinedOpcode 0xF4#8 s

/-- Opcode 0xFC, undefined (R340). -/
def execUndefFC (s : State) : Result := undefinedOpcode 0xFC#8 s

/-- Opcode 0xFD, undefined (R340). -/
def execUndefFD (s : State) : Result := undefinedOpcode 0xFD#8 s

end Sys2Proof.Machine
end

