-- ==== Sys2Proof/Machine/Processor.lean ====
section
/-! DEFINITION. Sys2Proof/Machine/Processor.lean: fetching, the processor step (R800), the devices' T-cycles and the
iteration of the master clock (R860, R881). -/

namespace Sys2Proof.Machine

/-- Where the byte after the opcode is fetched: the halt bug keeps pc where it is (R583, R800). -/
def State.operandPc (s : State) : Word := if s.cpu.haltBug then s.cpu.pc else s.cpu.pc + 1#16

/-- The opcode byte at pc. -/
def State.opcode (s : State) : Byte := memRead s s.cpu.pc

/-- The instruction fetched at pc (R309). Reads have no effect (R160), so reading a byte the instruction does not have
changes nothing. -/
def State.fetched (s : State) : Instr :=
  decode3 s.opcode (memRead s s.operandPc) (memRead s (s.operandPc + 1#16))

/-- The state once all bytes of the instruction have been fetched: pc past them, the halt bug disarmed (R53, R800; log 3). -/
def State.afterFetch (s : State) : State :=
  { s with
    cpu :=
      { s.cpu with
        pc := s.operandPc + BitVec.ofNat 16 (instrLength s.opcode - 1)
        haltBug := false
        opAddr := s.cpu.pc } }

/-- `if ime_delay > 0 then (ime_delay <- ime_delay - 1; if ime_delay = 0 then IME <- 1)` (R585, R800). -/
def State.countDownIme (s : State) : State :=
  if s.cpu.imeDelay = 0 then s
  else if s.cpu.imeDelay = 1 then { s with cpu := { s.cpu with imeDelay := 0, ime := true } }
  else { s with cpu := { s.cpu with imeDelay := s.cpu.imeDelay - 1 } }

/-- The end of an instruction: a fatal condition ends the step before the countdown of `EI` (R800). -/
def State.afterInstr (s : State) : State := if s.cpu.fatal.isSome then s else s.countDownIme

/-- Fetch one instruction and execute it (R800). -/
def executeOne (s : State) : Result :=
  match exec s.fetched s.afterFetch with
  | .next t => .next t.afterInstr
  | .fault r => .fault r
  | .refused r => .refused r

/-- The halt and stop states are left (R582, R584). -/
def State.wake (s : State) : State := { s with cpu := { s.cpu with stopped := false, halted := false } }

/-- `step()` of R800: the DMA stall, the stop and halt states, one dispatch, or one instruction. -/
def cpuStep (s : State) : Result :=
  if 0 < s.cpu.dmaStall then done 1 { s with cpu := { s.cpu with dmaStall := s.cpu.dmaStall - 1 } }
  else if (s.cpu.stopped || s.cpu.halted) && s.pending == 0#5 then done 1 s
  else if s.cpu.ime && s.pending != 0#5 then .next (takeInterrupt (lowestPending s.pending) s.wake)
  else executeOne s.wake

/-- One T-cycle of the timer, the pixel pipeline, the sound synthesizer and the serial port, in this order (R860). -/
def tickDevices (s : State) : State :=
  let s := s.putTimer s.timer.tick
  let s := s.putPpu (s.ppu.tick s.params s.vram s.oam)
  let s := { s with apu := s.apu.tick s.params.sampleRate }
  s.putSerial s.serial.tick

/-- One T-cycle delivered to the devices; while stopped only the cartridge clock receives it (R860, R861). -/
def tick (s : State) : State :=
  let s := if s.cpu.stopped then s else tickDevices s
  { s with cart := s.cart.tick, tCycles := s.tCycles + 1 }

/-- `n` T-cycles. -/
def advance : Nat → State → State
  | 0, s => s
  | n + 1, s => advance n (tick s)

/-- The check at the end of an iteration: a stop the host has asked for, then PROFILE_DURATION (R881 b, c; log 2). -/
def State.checkEnd (s : State) : State :=
  if s.stopRequested then { s with ended := some .host }
  else
    match s.params.profileDuration with
    | none => s
    | some d => if d ≤ s.tCycles then { s with ended := some .profile } else s

/-- What follows the processor step: nothing after a fatal condition (R802, R881 a), else `4n` T-cycles (R860). -/
def finishIteration (s : State) : State :=
  if s.cpu.fatal.isSome then s else (advance (Config.tPerM * s.cpu.cycles) s).checkEnd

/-- `iteration()` of R860. A run that has ended has no further step (R802, R881). -/
def iteration (s : State) : Result :=
  match s.cpu.fatal, s.ended with
  | some u, _ => .fault (.undefinedOpcode u.op u.addr)
  | none, some k => .fault (.runEnded k)
  | none, none =>
    match cpuStep s with
    | .next t => .next (finishIteration t)
    | .fault r => .fault r
    | .refused r => .refused r

/-- Put a byte where a fetch from `a` reads it, for the regions that are plain storage to a fetch. -/
def State.place (s : State) (a : Word) (v : Byte) : State :=
  match region a with
  | .rom n => { s with cart := { s.cart with rom := s.cart.rom.write (s.cart.romAt s.params.mbc1Model n) v } }
  | .wram i => { s with wram := s.wram.write i v }
  | .hram i => { s with hram := s.hram.write i v }
  | .vram _ | .eram _ | .oam _ | .unusable | .io _ | .ie => s

/-- A fetch from `a` reads what `State.place` puts there. -/
def fetchable (a : Word) : Bool :=
  match region a with
  | .rom _ | .wram _ | .hram _ => true
  | .vram _ | .eram _ | .oam _ | .unusable | .io _ | .ie => false

/-- The state with nothing in the way of a fetch at pc: no stall, halt, stop, halt bug, dispatch or end of the run, and
pc at three bytes that can be placed (log 19). -/
def State.readyToFetch (s : State) : State :=
  { s with
    cpu :=
      { s.cpu with
        pc :=
          if fetchable s.cpu.pc && fetchable (s.cpu.pc + 1#16) && fetchable (s.cpu.pc + 2#16) then s.cpu.pc
          else 0xC000#16
        ime := s.cpu.ime && s.pending == 0#5
        dmaStall := 0
        halted := false
        stopped := false
        haltBug := false
        fatal := none }
    ended := none }

/-- Three bytes at pc. -/
def State.placeBytes (s : State) (b : Byte × Byte × Byte) : State :=
  ((s.place s.cpu.pc b.1).place (s.cpu.pc + 1#16) b.2.1).place (s.cpu.pc + 2#16) b.2.2

end Sys2Proof.Machine
end

