-- ==== Sys2Proof/Machine/Step.lean ====
section
/-! DEFINITION. Sys2Proof/Machine/Step.lean: the step of the machine, and an instruction placed where it fetches. -/

namespace Sys2Proof.Machine

/-- One iteration of the master clock (R860). -/
def step (s : State) : Host.Outcome State Fault Refusal := iteration s

/-- `s` with the instruction of the table word `w` at pc, so that the next step runs it (log 10, log 19). -/
def State.withFetchWord (s : State) (nbits w : Nat) : State := s.readyToFetch.placeBytes (tableBytes nbits w)

end Sys2Proof.Machine
end

