-- ==== Sys2Proof/Machine/Forms.lean ====
section
/-! DEFINITION. Sys2Proof/Machine/Forms.lean: the constructors of `Instr` by their operands, so that one statement can
speak of every instruction of a group. -/

namespace Sys2Proof.Machine.Forms

open Sys2Proof Sys2Proof.Machine

/-- The field `r` of a register (R302). -/
def regCode : Reg8 → Nat
  | .b => 0
  | .c => 1
  | .d => 2
  | .e => 3
  | .h => 4
  | .l => 5
  | .a => 7

/-- The field `r` of an operand of the prefixed instructions (R302, R514). -/
def targetCode : Target → Nat
  | .reg r => regCode r
  | .atHl => 6

/-- The field `dd` (R303). -/
def pairCode : Pair → Nat
  | .bc => 0
  | .de => 1
  | .hl => 2
  | .sp => 3

/-- The field `qq` (R304). -/
def stackCode : StackPair → Nat
  | .bc => 0
  | .de => 1
  | .hl => 2
  | .af => 3

/-- The field `cc` (R305). -/
def condCode : Cond → Nat
  | .nz => 0
  | .z => 1
  | .nc => 2
  | .c => 3

/-- The field `ooo` (R306). -/
def aluCode : AluOp → Nat
  | .add => 0
  | .adc => 1
  | .sub => 2
  | .sbc => 3
  | .and => 4
  | .xor => 5
  | .or => 6
  | .cp => 7

/-- The field `bbb` of a rotate or shift (R310). -/
def shiftCode : ShiftOp → Nat
  | .rlc => 0
  | .rrc => 1
  | .rl => 2
  | .rr => 3
  | .sla => 4
  | .sra => 5
  | .swap => 6
  | .srl => 7

/-- The bytes of an ALU instruction: `10 ooo rrr`, `10 ooo 110`, or `11 ooo 110 n8` (R450). -/
def aluBytes (op : AluOp) : Source → List Byte
  | .reg r => [BitVec.ofNat 8 (0x80 + 8 * aluCode op + regCode r)]
  | .atHl => [BitVec.ofNat 8 (0x86 + 8 * aluCode op)]
  | .imm n => [BitVec.ofNat 8 (0xC6 + 8 * aluCode op), n]

/-- An opcode with a 16-bit operand, low byte first (R300, R301). -/
def withWord (op : Nat) (w : Word) : List Byte := [BitVec.ofNat 8 op, w.extractLsb' 0 8, w.extractLsb' 8 8]

/-- `LD r,r'` (R400): `ldBB`, `ldBC`, `ldBD`, `ldBE`, `ldBH`, `ldBL`, `ldBA`, `ldCB`, `ldCC`, `ldCD`, `ldCE`, `ldCH`,
`ldCL`, `ldCA`, `ldDB`, `ldDC`, `ldDD`, `ldDE`, `ldDH`, `ldDL`, `ldDA`, `ldEB`, `ldEC`, `ldED`, `ldEE`, `ldEH`,
`ldEL`, `ldEA`, `ldHB`, `ldHC`, `ldHD`, `ldHE`, `ldHH`, `ldHL`, `ldHA`, `ldLB`, `ldLC`, `ldLD`, `ldLE`, `ldLH`,
`ldLL`, `ldLA`, `ldAB`, `ldAC`, `ldAD`, `ldAE`, `ldAH`, `ldAL`, `ldAA`. -/
def ldReg : Reg8 → Reg8 → Instr
  | .b, .b => .ldBB
  | .b, .c => .ldBC
  | .b, .d => .ldBD
  | .b, .e => .ldBE
  | .b, .h => .ldBH
  | .b, .l => .ldBL
  | .b, .a => .ldBA
  | .c, .b => .ldCB
  | .c, .c => .ldCC
  | .c, .d => .ldCD
  | .c, .e => .ldCE
  | .c, .h => .ldCH
  | .c, .l => .ldCL
  | .c, .a => .ldCA
  | .d, .b => .ldDB
  | .d, .c => .ldDC
  | .d, .d => .ldDD
  | .d, .e => .ldDE
  | .d, .h => .ldDH
  | .d, .l => .ldDL
  | .d, .a => .ldDA
  | .e, .b => .ldEB
  | .e, .c => .ldEC
  | .e, .d => .ldED
  | .e, .e => .ldEE
  | .e, .h => .ldEH
  | .e, .l => .ldEL
  | .e, .a => .ldEA
  | .h, .b => .ldHB
  | .h, .c => .ldHC
  | .h, .d => .ldHD
  | .h, .e => .ldHE
  | .h, .h => .ldHH
  | .h, .l => .ldHL
  | .h, .a => .ldHA
  | .l, .b => .ldLB
  | .l, .c => .ldLC
  | .l, .d => .ldLD
  | .l, .e => .ldLE
  | .l, .h => .ldLH
  | .l, .l => .ldLL
  | .l, .a => .ldLA
  | .a, .b => .ldAB
  | .a, .c => .ldAC
  | .a, .d => .ldAD
  | .a, .e => .ldAE
  | .a, .h => .ldAH
  | .a, .l => .ldAL
  | .a, .a => .ldAA

/-- `LD r,n8` (R401): `ldBN8`, `ldCN8`, `ldDN8`, `ldEN8`, `ldHN8`, `ldLN8`, `ldAN8`. -/
def ldImm (n : Byte) : Reg8 → Instr
  | .b => .ldBN8 n
  | .c => .ldCN8 n
  | .d => .ldDN8 n
  | .e => .ldEN8 n
  | .h => .ldHN8 n
  | .l => .ldLN8 n
  | .a => .ldAN8 n

/-- `LD r,(HL)` (R402): `ldBAtHl`, `ldCAtHl`, `ldDAtHl`, `ldEAtHl`, `ldHAtHl`, `ldLAtHl`, `ldAAtHl`. -/
def ldAtHl : Reg8 → Instr
  | .b => .ldBAtHl
  | .c => .ldCAtHl
  | .d => .ldDAtHl
  | .e => .ldEAtHl
  | .h => .ldHAtHl
  | .l => .ldLAtHl
  | .a => .ldAAtHl

/-- `LD (HL),r` (R403): `ldAtHlB`, `ldAtHlC`, `ldAtHlD`, `ldAtHlE`, `ldAtHlH`, `ldAtHlL`, `ldAtHlA`. -/
def stAtHl : Reg8 → Instr
  | .b => .ldAtHlB
  | .c => .ldAtHlC
  | .d => .ldAtHlD
  | .e => .ldAtHlE
  | .h => .ldAtHlH
  | .l => .ldAtHlL
  | .a => .ldAtHlA

/-- `LD A,(BC)`, `LD A,(DE)`, `LD A,(HL+)`, `LD A,(HL-)` (R405, R406, R417, R418): `ldAAtBc`, `ldAAtDe`, `ldAAtHlInc`,
`ldAAtHlDec`. -/
def ldA : Pointer → Instr
  | .bc => .ldAAtBc
  | .de => .ldAAtDe
  | .hlInc => .ldAAtHlInc
  | .hlDec => .ldAAtHlDec

/-- `LD (BC),A`, `LD (DE),A`, `LD (HL+),A`, `LD (HL-),A` (R407, R408, R415, R416): `ldAtBcA`, `ldAtDeA`, `ldAtHlIncA`,
`ldAtHlDecA`. -/
def stA : Pointer → Instr
  | .bc => .ldAtBcA
  | .de => .ldAtDeA
  | .hlInc => .ldAtHlIncA
  | .hlDec => .ldAtHlDecA

/-- `LD dd,n16` (R419): `ldBcN16`, `ldDeN16`, `ldHlN16`, `ldSpN16`. -/
def ldPair (n : Word) : Pair → Instr
  | .bc => .ldBcN16 n
  | .de => .ldDeN16 n
  | .hl => .ldHlN16 n
  | .sp => .ldSpN16 n

/-- `PUSH qq` (R422): `pushBc`, `pushDe`, `pushHl`, `pushAf`. -/
def push : StackPair → Instr
  | .bc => .pushBc
  | .de => .pushDe
  | .hl => .pushHl
  | .af => .pushAf

/-- `POP qq` (R423, R424): `popBc`, `popDe`, `popHl`, `popAf`. -/
def pop : StackPair → Instr
  | .bc => .popBc
  | .de => .popDe
  | .hl => .popHl
  | .af => .popAf

/-- The ALU group (R450 to R458): `addAB`, `addAC`, `addAD`, `addAE`, `addAH`, `addAL`, `addAA`, `addAAtHl`, `addAN8`,
`adcAB`, `adcAC`, `adcAD`, `adcAE`, `adcAH`, `adcAL`, `adcAA`, `adcAAtHl`, `adcAN8`, `subB`, `subC`, `subD`, `subE`,
`subH`, `subL`, `subA`, `subAtHl`, `subN8`, `sbcAB`, `sbcAC`, `sbcAD`, `sbcAE`, `sbcAH`, `sbcAL`, `sbcAA`,
`sbcAAtHl`, `sbcAN8`, `andB`, `andC`, `andD`, `andE`, `andH`, `andL`, `andA`, `andAtHl`, `andN8`, `xorB`, `xorC`,
`xorD`, `xorE`, `xorH`, `xorL`, `xorA`, `xorAtHl`, `xorN8`, `orB`, `orC`, `orD`, `orE`, `orH`, `orL`, `orA`,
`orAtHl`, `orN8`, `cpB`, `cpC`, `cpD`, `cpE`, `cpH`, `cpL`, `cpA`, `cpAtHl`, `cpN8`. -/
def alu : AluOp → Source → Instr
  | .add, .reg .b => .addAB
  | .add, .reg .c => .addAC
  | .add, .reg .d => .addAD
  | .add, .reg .e => .addAE
  | .add, .reg .h => .addAH
  | .add, .reg .l => .addAL
  | .add, .reg .a => .addAA
  | .add, .atHl => .addAAtHl
  | .add, .imm n => .addAN8 n
  | .adc, .reg .b => .adcAB
  | .adc, .reg .c => .adcAC
  | .adc, .reg .d => .adcAD
  | .adc, .reg .e => .adcAE
  | .adc, .reg .h => .adcAH
  | .adc, .reg .l => .adcAL
  | .adc, .reg .a => .adcAA
  | .adc, .atHl => .adcAAtHl
  | .adc, .imm n => .adcAN8 n
  | .sub, .reg .b => .subB
  | .sub, .reg .c => .subC
  | .sub, .reg .d => .subD
  | .sub, .reg .e => .subE
  | .sub, .reg .h => .subH
  | .sub, .reg .l => .subL
  | .sub, .reg .a => .subA
  | .sub, .atHl => .subAtHl
  | .sub, .imm n => .subN8 n
  | .sbc, .reg .b => .sbcAB
  | .sbc, .reg .c => .sbcAC
  | .sbc, .reg .d => .sbcAD
  | .sbc, .reg .e => .sbcAE
  | .sbc, .reg .h => .sbcAH
  | .sbc, .reg .l => .sbcAL
  | .sbc, .reg .a => .sbcAA
  | .sbc, .atHl => .sbcAAtHl
  | .sbc, .imm n => .sbcAN8 n
  | .and, .reg .b => .andB
  | .and, .reg .c => .andC
  | .and, .reg .d => .andD
  | .and, .reg .e => .andE
  | .and, .reg .h => .andH
  | .and, .reg .l => .andL
  | .and, .reg .a => .andA
  | .and, .atHl => .andAtHl
  | .and, .imm n => .andN8 n
  | .xor, .reg .b => .xorB
  | .xor, .reg .c => .xorC
  | .xor, .reg .d => .xorD
  | .xor, .reg .e => .xorE
  | .xor, .reg .h => .xorH
  | .xor, .reg .l => .xorL
  | .xor, .reg .a => .xorA
  | .xor, .atHl => .xorAtHl
  | .xor, .imm n => .xorN8 n
  | .or, .reg .b => .orB
  | .or, .reg .c => .orC
  | .or, .reg .d => .orD
  | .or, .reg .e => .orE
  | .or, .reg .h => .orH
  | .or, .reg .l => .orL
  | .or, .reg .a => .orA
  | .or, .atHl => .orAtHl
  | .or, .imm n => .orN8 n
  | .cp, .reg .b => .cpB
  | .cp, .reg .c => .cpC
  | .cp, .reg .d => .cpD
  | .cp, .reg .e => .cpE
  | .cp, .reg .h => .cpH
  | .cp, .reg .l => .cpL
  | .cp, .reg .a => .cpA
  | .cp, .atHl => .cpAtHl
  | .cp, .imm n => .cpN8 n

/-- `INC r` (R460): `incB`, `incC`, `incD`, `incE`, `incH`, `incL`, `incA`. -/
def inc : Reg8 → Instr
  | .b => .incB
  | .c => .incC
  | .d => .incD
  | .e => .incE
  | .h => .incH
  | .l => .incL
  | .a => .incA

/-- `DEC r` (R461): `decB`, `decC`, `decD`, `decE`, `decH`, `decL`, `decA`. -/
def dec : Reg8 → Instr
  | .b => .decB
  | .c => .decC
  | .d => .decD
  | .e => .decE
  | .h => .decH
  | .l => .decL
  | .a => .decA

/-- `INC dd` (R490): `incBc`, `incDe`, `incHl`, `incSp`. -/
def incPair : Pair → Instr
  | .bc => .incBc
  | .de => .incDe
  | .hl => .incHl
  | .sp => .incSp

/-- `DEC dd` (R491): `decBc`, `decDe`, `decHl`, `decSp`. -/
def decPair : Pair → Instr
  | .bc => .decBc
  | .de => .decDe
  | .hl => .decHl
  | .sp => .decSp

/-- `ADD HL,dd` (R492): `addHlBc`, `addHlDe`, `addHlHl`, `addHlSp`. -/
def addHl : Pair → Instr
  | .bc => .addHlBc
  | .de => .addHlDe
  | .hl => .addHlHl
  | .sp => .addHlSp

/-- The prefixed rotates and shifts (R515 to R522): `rlcB`, `rlcC`, `rlcD`, `rlcE`, `rlcH`, `rlcL`, `rlcAtHl`, `rlcA`,
`rrcB`, `rrcC`, `rrcD`, `rrcE`, `rrcH`, `rrcL`, `rrcAtHl`, `rrcA`, `rlB`, `rlC`, `rlD`, `rlE`, `rlH`, `rlL`,
`rlAtHl`, `rlA`, `rrB`, `rrC`, `rrD`, `rrE`, `rrH`, `rrL`, `rrAtHl`, `rrA`, `slaB`, `slaC`, `slaD`, `slaE`, `slaH`,
`slaL`, `slaAtHl`, `slaA`, `sraB`, `sraC`, `sraD`, `sraE`, `sraH`, `sraL`, `sraAtHl`, `sraA`, `swapB`, `swapC`,
`swapD`, `swapE`, `swapH`, `swapL`, `swapAtHl`, `swapA`, `srlB`, `srlC`, `srlD`, `srlE`, `srlH`, `srlL`, `srlAtHl`,
`srlA`. -/
def shift : ShiftOp → Target → Instr
  | .rlc, .reg .b => .rlcB
  | .rlc, .reg .c => .rlcC
  | .rlc, .reg .d => .rlcD
  | .rlc, .reg .e => .rlcE
  | .rlc, .reg .h => .rlcH
  | .rlc, .reg .l => .rlcL
  | .rlc, .atHl => .rlcAtHl
  | .rlc, .reg .a => .rlcA
  | .rrc, .reg .b => .rrcB
  | .rrc, .reg .c => .rrcC
  | .rrc, .reg .d => .rrcD
  | .rrc, .reg .e => .rrcE
  | .rrc, .reg .h => .rrcH
  | .rrc, .reg .l => .rrcL
  | .rrc, .atHl => .rrcAtHl
  | .rrc, .reg .a => .rrcA
  | .rl, .reg .b => .rlB
  | .rl, .reg .c => .rlC
  | .rl, .reg .d => .rlD
  | .rl, .reg .e => .rlE
  | .rl, .reg .h => .rlH
  | .rl, .reg .l => .rlL
  | .rl, .atHl => .rlAtHl
  | .rl, .reg .a => .rlA
  | .rr, .reg .b => .rrB
  | .rr, .reg .c => .rrC
  | .rr, .reg .d => .rrD
  | .rr, .reg .e => .rrE
  | .rr, .reg .h => .rrH
  | .rr, .reg .l => .rrL
  | .rr, .atHl => .rrAtHl
  | .rr, .reg .a => .rrA
  | .sla, .reg .b => .slaB
  | .sla, .reg .c => .slaC
  | .sla, .reg .d => .slaD
  | .sla, .reg .e => .slaE
  | .sla, .reg .h => .slaH
  | .sla, .reg .l => .slaL
  | .sla, .atHl => .slaAtHl
  | .sla, .reg .a => .slaA
  | .sra, .reg .b => .sraB
  | .sra, .reg .c => .sraC
  | .sra, .reg .d => .sraD
  | .sra, .reg .e => .sraE
  | .sra, .reg .h => .sraH
  | .sra, .reg .l => .sraL
  | .sra, .atHl => .sraAtHl
  | .sra, .reg .a => .sraA
  | .swap, .reg .b => .swapB
  | .swap, .reg .c => .swapC
  | .swap, .reg .d => .swapD
  | .swap, .reg .e => .swapE
  | .swap, .reg .h => .swapH
  | .swap, .reg .l => .swapL
  | .swap, .atHl => .swapAtHl
  | .swap, .reg .a => .swapA
  | .srl, .reg .b => .srlB
  | .srl, .reg .c => .srlC
  | .srl, .reg .d => .srlD
  | .srl, .reg .e => .srlE
  | .srl, .reg .h => .srlH
  | .srl, .reg .l => .srlL
  | .srl, .atHl => .srlAtHl
  | .srl, .reg .a => .srlA

/-- `BIT b,s` (R525) by b and the field r: `bit0B`, `bit0C`, `bit0D`, `bit0E`, `bit0H`, `bit0L`, `bit0AtHl`, `bit0A`,
`bit1B`, `bit1C`, `bit1D`, `bit1E`, `bit1H`, `bit1L`, `bit1AtHl`, `bit1A`, `bit2B`, `bit2C`, `bit2D`, `bit2E`,
`bit2H`, `bit2L`, `bit2AtHl`, `bit2A`, `bit3B`, `bit3C`, `bit3D`, `bit3E`, `bit3H`, `bit3L`, `bit3AtHl`, `bit3A`,
`bit4B`, `bit4C`, `bit4D`, `bit4E`, `bit4H`, `bit4L`, `bit4AtHl`, `bit4A`, `bit5B`, `bit5C`, `bit5D`, `bit5E`,
`bit5H`, `bit5L`, `bit5AtHl`, `bit5A`, `bit6B`, `bit6C`, `bit6D`, `bit6E`, `bit6H`, `bit6L`, `bit6AtHl`, `bit6A`,
`bit7B`, `bit7C`, `bit7D`, `bit7E`, `bit7H`, `bit7L`, `bit7AtHl`, `bit7A`. -/
def bitRows : List (List Instr) :=
  [[.bit0B, .bit0C, .bit0D, .bit0E, .bit0H, .bit0L, .bit0AtHl, .bit0A],
   [.bit1B, .bit1C, .bit1D, .bit1E, .bit1H, .bit1L, .bit1AtHl, .bit1A],
   [.bit2B, .bit2C, .bit2D, .bit2E, .bit2H, .bit2L, .bit2AtHl, .bit2A],
   [.bit3B, .bit3C, .bit3D, .bit3E, .bit3H, .bit3L, .bit3AtHl, .bit3A],
   [.bit4B, .bit4C, .bit4D, .bit4E, .bit4H, .bit4L, .bit4AtHl, .bit4A],
   [.bit5B, .bit5C, .bit5D, .bit5E, .bit5H, .bit5L, .bit5AtHl, .bit5A],
   [.bit6B, .bit6C, .bit6D, .bit6E, .bit6H, .bit6L, .bit6AtHl, .bit6A],
   [.bit7B, .bit7C, .bit7D, .bit7E, .bit7H, .bit7L, .bit7AtHl, .bit7A]]

/-- `RES b,s` (R526) by b and the field r: `res0B`, `res0C`, `res0D`, `res0E`, `res0H`, `res0L`, `res0AtHl`, `res0A`,
`res1B`, `res1C`, `res1D`, `res1E`, `res1H`, `res1L`, `res1AtHl`, `res1A`, `res2B`, `res2C`, `res2D`, `res2E`,
`res2H`, `res2L`, `res2AtHl`, `res2A`, `res3B`, `res3C`, `res3D`, `res3E`, `res3H`, `res3L`, `res3AtHl`, `res3A`,
`res4B`, `res4C`, `res4D`, `res4E`, `res4H`, `res4L`, `res4AtHl`, `res4A`, `res5B`, `res5C`, `res5D`, `res5E`,
`res5H`, `res5L`, `res5AtHl`, `res5A`, `res6B`, `res6C`, `res6D`, `res6E`, `res6H`, `res6L`, `res6AtHl`, `res6A`,
`res7B`, `res7C`, `res7D`, `res7E`, `res7H`, `res7L`, `res7AtHl`, `res7A`. -/
def resRows : List (List Instr) :=
  [[.res0B, .res0C, .res0D, .res0E, .res0H, .res0L, .res0AtHl, .res0A],
   [.res1B, .res1C, .res1D, .res1E, .res1H, .res1L, .res1AtHl, .res1A],
   [.res2B, .res2C, .res2D, .res2E, .res2H, .res2L, .res2AtHl, .res2A],
   [.res3B, .res3C, .res3D, .res3E, .res3H, .res3L, .res3AtHl, .res3A],
   [.res4B, .res4C, .res4D, .res4E, .res4H, .res4L, .res4AtHl, .res4A],
   [.res5B, .res5C, .res5D, .res5E, .res5H, .res5L, .res5AtHl, .res5A],
   [.res6B, .res6C, .res6D, .res6E, .res6H, .res6L, .res6AtHl, .res6A],
   [.res7B, .res7C, .res7D, .res7E, .res7H, .res7L, .res7AtHl, .res7A]]

/-- `SET b,s` (R527) by b and the field r: `set0B`, `set0C`, `set0D`, `set0E`, `set0H`, `set0L`, `set0AtHl`, `set0A`,
`set1B`, `set1C`, `set1D`, `set1E`, `set1H`, `set1L`, `set1AtHl`, `set1A`, `set2B`, `set2C`, `set2D`, `set2E`,
`set2H`, `set2L`, `set2AtHl`, `set2A`, `set3B`, `set3C`, `set3D`, `set3E`, `set3H`, `set3L`, `set3AtHl`, `set3A`,
`set4B`, `set4C`, `set4D`, `set4E`, `set4H`, `set4L`, `set4AtHl`, `set4A`, `set5B`, `set5C`, `set5D`, `set5E`,
`set5H`, `set5L`, `set5AtHl`, `set5A`, `set6B`, `set6C`, `set6D`, `set6E`, `set6H`, `set6L`, `set6AtHl`, `set6A`,
`set7B`, `set7C`, `set7D`, `set7E`, `set7H`, `set7L`, `set7AtHl`, `set7A`. -/
def setRows : List (List Instr) :=
  [[.set0B, .set0C, .set0D, .set0E, .set0H, .set0L, .set0AtHl, .set0A],
   [.set1B, .set1C, .set1D, .set1E, .set1H, .set1L, .set1AtHl, .set1A],
   [.set2B, .set2C, .set2D, .set2E, .set2H, .set2L, .set2AtHl, .set2A],
   [.set3B, .set3C, .set3D, .set3E, .set3H, .set3L, .set3AtHl, .set3A],
   [.set4B, .set4C, .set4D, .set4E, .set4H, .set4L, .set4AtHl, .set4A],
   [.set5B, .set5C, .set5D, .set5E, .set5H, .set5L, .set5AtHl, .set5A],
   [.set6B, .set6C, .set6D, .set6E, .set6H, .set6L, .set6AtHl, .set6A],
   [.set7B, .set7C, .set7D, .set7E, .set7H, .set7L, .set7AtHl, .set7A]]

/-- The cell of one of the three tables above; both indexes are below 8, so the default is never taken. -/
def cell (rows : List (List Instr)) (b : Fin 8) (t : Target) : Instr := (rows.getD b.val []).getD (targetCode t) .nop

/-- `BIT b,t` (R525), the 64 constructors of `bitRows`. -/
def bitAt (b : Fin 8) (t : Target) : Instr := cell bitRows b t

/-- `RES b,t` (R526), the 64 constructors of `resRows`. -/
def resAt (b : Fin 8) (t : Target) : Instr := cell resRows b t

/-- `SET b,t` (R527), the 64 constructors of `setRows`. -/
def setAt (b : Fin 8) (t : Target) : Instr := cell setRows b t

/-- `JP cc,n16` (R552): `jpNzN16`, `jpZN16`, `jpNcN16`, `jpCN16`. -/
def jpIf (n : Word) : Cond → Instr
  | .nz => .jpNzN16 n
  | .z => .jpZN16 n
  | .nc => .jpNcN16 n
  | .c => .jpCN16 n

/-- `JR cc,e8` (R555): `jrNzE8`, `jrZE8`, `jrNcE8`, `jrCE8`. -/
def jrIf (e : Byte) : Cond → Instr
  | .nz => .jrNzE8 e
  | .z => .jrZE8 e
  | .nc => .jrNcE8 e
  | .c => .jrCE8 e

/-- `CALL cc,n16` (R557): `callNzN16`, `callZN16`, `callNcN16`, `callCN16`. -/
def callIf (n : Word) : Cond → Instr
  | .nz => .callNzN16 n
  | .z => .callZN16 n
  | .nc => .callNcN16 n
  | .c => .callCN16 n

/-- `RET cc` (R559): `retNz`, `retZ`, `retNc`, `retC`. -/
def retIf : Cond → Instr
  | .nz => .retNz
  | .z => .retZ
  | .nc => .retNc
  | .c => .retC

/-- `RST t` by t div 8 (R561): `rst00`, `rst08`, `rst10`, `rst18`, `rst20`, `rst28`, `rst30`, `rst38`. -/
def rstRow : List Instr :=
  [.rst00, .rst08, .rst10, .rst18, .rst20, .rst28, .rst30, .rst38]

/-- `RST 8k` (R561), the 8 constructors of `rstRow`. -/
def rst (k : Fin 8) : Instr := rstRow.getD k.val .nop

/-- The undefined opcodes (R340) with their bytes: `undefD3`, `undefDB`, `undefDD`, `undefE3`, `undefE4`, `undefEB`,
`undefEC`, `undefED`, `undefF4`, `undefFC`, `undefFD`. -/
def undefinedRow : List (Byte × Instr) :=
  [(0xD3#8, .undefD3),
   (0xDB#8, .undefDB),
   (0xDD#8, .undefDD),
   (0xE3#8, .undefE3),
   (0xE4#8, .undefE4),
   (0xEB#8, .undefEB),
   (0xEC#8, .undefEC),
   (0xED#8, .undefED),
   (0xF4#8, .undefF4),
   (0xFC#8, .undefFC),
   (0xFD#8, .undefFD)]

end Sys2Proof.Machine.Forms
end

