-- ==== Sys2Proof/Machine/HostOps.lean ====
section
/-! DEFINITION. Sys2Proof/Machine/HostOps.lean: what the host may do between iterations, and the outcome of a run (R851,
R880, R881). None of it is part of a step (log 21). -/

namespace Sys2Proof.Machine

/-- The host sets the button mask to `m`: a press edge requests the joypad interrupt (R851). -/
def State.setButtons (s : State) (m : Byte) : State :=
  { s with
    buttonsPrev := s.buttons
    buttons := m
    intf := s.intf ||| irqIf (m &&& ~~~s.buttons != 0#8) irqJoypad }

/-- The host asks for a stop; the run ends after the current iteration (R880, R881 b; log 2). -/
def State.requestStop (s : State) : State := { s with stopRequested := true }

/-- The host takes the published frames (R606, R880; log 25). -/
def State.takeFrames (s : State) : List Frame × State :=
  (s.ppu.framesOut, { s with ppu := { s.ppu with framesOut := [] } })

/-- The host takes the samples (R721, R880; log 25). -/
def State.takeSamples (s : State) : List (Nat × Nat) × State :=
  (s.apu.samplesOut, { s with apu := { s.apu with samplesOut := [] } })

/-- The host takes the serial bytes (R845, R880; log 25). -/
def State.takeSerial (s : State) : List Byte × State :=
  (s.serial.out, { s with serial := { s.serial with out := [] } })

/-- A saved state (R880, R882, D43): the state of 10_state.md with the cartridge, its image included, and the count of
T-cycles. The parameters of R11 are fixed for the machine, and the end of a run is no state of it (log 27). -/
structure SavedState where
  cpu : Cpu
  ie : Byte
  intf : BitVec 5
  p1 : BitVec 2
  timer : Timer
  serial : Serial
  ppu : Ppu
  apu : Apu
  cart : Cart
  vram : Mem
  wram : Mem
  oam : Mem
  hram : Mem
  buttons : Byte
  buttonsPrev : Byte
  stopRequested : Bool
  tCycles : Nat
deriving DecidableEq, Repr

/-- The host saves the state (R880, D43). -/
def State.save (s : State) : SavedState :=
  { cpu := s.cpu, ie := s.ie, intf := s.intf, p1 := s.p1, timer := s.timer, serial := s.serial, ppu := s.ppu,
    apu := s.apu, cart := s.cart, vram := s.vram, wram := s.wram, oam := s.oam, hram := s.hram,
    buttons := s.buttons, buttonsPrev := s.buttonsPrev, stopRequested := s.stopRequested, tCycles := s.tCycles }

/-- The host restores a saved state, which replaces the machine's (R880, D43). -/
def State.restore (s : State) (k : SavedState) : State :=
  { s with
    cpu := k.cpu, ie := k.ie, intf := k.intf, p1 := k.p1, timer := k.timer, serial := k.serial, ppu := k.ppu,
    apu := k.apu, cart := k.cart, vram := k.vram, wram := k.wram, oam := k.oam, hram := k.hram,
    buttons := k.buttons, buttonsPrev := k.buttonsPrev, stopRequested := k.stopRequested, tCycles := k.tCycles }

/-- The host's duty at a restore: the state was saved from the same image (R880). -/
def State.mayRestore (s : State) (k : SavedState) : Bool := k.cart.rom == s.cart.rom && k.cart.nrom == s.cart.nrom

/-- Cells of external RAM: 512 nibbles for variant B, else RAMSIZE bytes (R240, R250). -/
def Cart.ramCells (c : Cart) : Nat :=
  match c.ctrl with
  | .b _ => 512
  | .none | .a _ | .c _ | .d _ => c.ramSize

/-- The external RAM as a list of bytes, what a battery keeps (R228). Of variant B the dump holds a nibble each (D42); that
the other four bits of each byte are 0 is the model's choice (log 29). -/
def Cart.ramBytes (c : Cart) : List Byte := (List.range c.ramCells).map c.eram.read

/-- The outcomes of a run that has a state (R803, R881); the load errors are `Loader`'s. -/
inductive RunOutcome where
  | running
  | fatal (op : Byte) (addr : Word)
  | stopped (k : StopKind)
deriving DecidableEq, Repr

/-- The outcome of the run so far (R803, R881). -/
def State.outcome (s : State) : RunOutcome :=
  match s.cpu.fatal, s.ended with
  | some u, _ => .fatal u.op u.addr
  | none, some k => .stopped k
  | none, none => .running

/-- The dump the host receives at a clean shutdown, when the type declares a battery (R228, R880, R881). That a run which
PROFILE_DURATION ends counts as one, like a run the host stops, is the model's choice (log 28). -/
def State.batteryDump (s : State) : Option (List Byte) :=
  match s.outcome with
  | .stopped _ => if s.cart.battery then some s.cart.ramBytes else none
  | .running | .fatal _ _ => none

end Sys2Proof.Machine
end

