-- ==== Sys2Proof/Machine/Loader.lean ====
section
/-! DEFINITION. Sys2Proof/Machine/Loader.lean: from an image to the first state of a run: header, load errors, the
cartridge and the reset state around it (R220 to R228, R900 to R906). -/

namespace Sys2Proof.Machine

open Sys2Proof.Config

/-- The load errors of R226, which end startup before any state exists. -/
inductive LoadError where
  | unreadable
  | truncated
  | unsupportedController (code : Byte)
  | unsupportedSize
  | badChecksum
deriving DecidableEq, Repr

/-- The controller variants of R223. -/
inductive Variant where
  | none
  | a
  | b
  | c
  | d
deriving DecidableEq, Repr

/-- A row of R223's table; `rumble` marks the types 0x1C to 0x1E (R271). -/
structure CartType where
  variant : Variant
  ram : Bool
  battery : Bool
  clock : Bool
  rumble : Bool
deriving DecidableEq, Repr

/-- R223's table; `none` for an unsupported code. -/
def cartType (code : Byte) : Option CartType :=
  match code.toNat with
  | 0x00 => some { variant := .none, ram := false, battery := false, clock := false, rumble := false }
  | 0x08 => some { variant := .none, ram := true, battery := false, clock := false, rumble := false }
  | 0x09 => some { variant := .none, ram := true, battery := true, clock := false, rumble := false }
  | 0x01 => some { variant := .a, ram := false, battery := false, clock := false, rumble := false }
  | 0x02 => some { variant := .a, ram := true, battery := false, clock := false, rumble := false }
  | 0x03 => some { variant := .a, ram := true, battery := true, clock := false, rumble := false }
  | 0x05 => some { variant := .b, ram := true, battery := false, clock := false, rumble := false }
  | 0x06 => some { variant := .b, ram := true, battery := true, clock := false, rumble := false }
  | 0x0F => some { variant := .c, ram := false, battery := true, clock := true, rumble := false }
  | 0x10 => some { variant := .c, ram := true, battery := true, clock := true, rumble := false }
  | 0x11 => some { variant := .c, ram := false, battery := false, clock := false, rumble := false }
  | 0x12 => some { variant := .c, ram := true, battery := false, clock := false, rumble := false }
  | 0x13 => some { variant := .c, ram := true, battery := true, clock := false, rumble := false }
  | 0x19 => some { variant := .d, ram := false, battery := false, clock := false, rumble := false }
  | 0x1A => some { variant := .d, ram := true, battery := false, clock := false, rumble := false }
  | 0x1B => some { variant := .d, ram := true, battery := true, clock := false, rumble := false }
  | 0x1C => some { variant := .d, ram := false, battery := false, clock := false, rumble := true }
  | 0x1D => some { variant := .d, ram := true, battery := false, clock := false, rumble := true }
  | 0x1E => some { variant := .d, ram := true, battery := true, clock := false, rumble := true }
  | _ => none

/-- NROM of the ROM size code (R224). -/
def romBanks (code : Byte) : Option Nat := if code.toNat ≤ 8 then some (2 * 2 ^ code.toNat) else none

/-- Bytes of the RAM size code (R225). -/
def ramBytesOf (code : Byte) : Option Nat :=
  match code.toNat with
  | 0 => some 0
  | 1 => some 0x800
  | 2 => some 0x2000
  | 3 => some 0x8000
  | 4 => some 0x20000
  | 5 => some 0x10000
  | _ => none

/-- NRAM of a byte size: 8 KiB banks, 1 for 2 KiB (R225). -/
def ramBanks (size : Nat) : Nat := (size + 0x1FFF) / 0x2000

/-- A byte of the image. -/
def imageByte (image : List Byte) (a : Nat) : Byte := image.getD a 0x00#8

/-- The checksum loop of R222 over the bytes it is given. -/
def checksumOf (bytes : List Byte) : Byte := bytes.foldl (fun x b => x - b - 1#8) 0x00#8

/-- The header checksum holds (R222). -/
def checksumOk (image : List Byte) : Bool :=
  checksumOf ((image.drop 0x134).take 25) == imageByte image 0x14D

/-- The power-on contents of the memories and of OBP0 and OBP1: the draws INIT_MEM, INIT_OBP0, INIT_OBP1 (R11, R903). A
byte past the end of a list is the unlisted byte (log 7). -/
structure Draws where
  vram : List Byte
  wram : List Byte
  oam : List Byte
  hram : List Byte
  wave : List Byte
  eram : List Byte
  obp0 : Byte
  obp1 : Byte
deriving DecidableEq, Repr

/-- What the host and the implementation fix before the run (R11, R880). -/
structure Setup where
  params : Params
  divInit : BitVec 16
  rtcInit : ClockRegs
  draws : Draws
deriving DecidableEq, Repr

/-- The contents `ERAM` starts with: the dump's bytes when the type declares a battery and there is a dump, the draw
for the rest; variant B keeps the low nibbles (R228, R250). -/
def eramStart (t : CartType) (cells : Nat) (dump : Option (List Byte)) (draw : List Byte) : Mem :=
  let given := if t.battery then dump.getD [] else []
  let bytes := (given ++ draw.drop given.length).take cells
  Mem.ofBytesFrom 0 (if t.variant = .b then bytes.map (fun v => v &&& 0x0F#8) else bytes)

/-- The controller at construction (R241); DH keeps the bits R260 stores. -/
def startController (t : CartType) (rtc : ClockRegs) : Controller :=
  match t.variant with
  | .none => .none
  | .a => .a { ramEnable := false, bank1 := 1#5, bank2 := 0#2, mode := false }
  | .b => .b { ramEnable := false, romBank := 1#4 }
  | .c =>
    let rtc := { rtc with dh := rtc.dh &&& 0xC1#8 }
    .c { ramEnable := false, romBank := 1#7, sel := 0#4, latchPrev := 0xFF#8
         clock := if t.clock then some { live := rtc, latched := rtc, sub := 0 } else none }
  | .d => .d { ramEnable := false, romBank := 1#9, ramBank := 0#4, rumble := t.rumble }

/-- RAMSIZE: 512 cells for variant B, whatever the size code; else what the header declares, whatever the type says of
RAM (R225, R250), but for the types without a controller, of which 0x08 and 0x09 alone have RAM (R240, D41; log 15). -/
def ramSizeOf (t : CartType) (declared : Nat) : Nat :=
  match t.variant with
  | .b => 512
  | .none => if t.ram then declared else 0
  | .a | .c | .d => declared

/-- The cartridge of an accepted image (R226, R240, R241). -/
def buildCart (u : Setup) (t : CartType) (nrom declared : Nat) (image : List Byte) (dump : Option (List Byte)) : Cart :=
  { rom := Mem.ofBytesFrom 0 (image.take (0x4000 * nrom))
    nrom := nrom
    nram := ramBanks (ramSizeOf t declared)
    ramSize := ramSizeOf t declared
    battery := t.battery
    ctrl := startController t u.rtcInit
    eram := eramStart t (ramSizeOf t declared) dump u.draws.eram }

/-- Construct the cartridge, with the checks of R226 in their order; the flag reports a checksum mismatch that the
policy lets pass (R227). `image` is `none` for a file the host cannot read. -/
def loadCart (u : Setup) (image : Option (List Byte)) (dump : Option (List Byte)) : Except LoadError (Cart × Bool) :=
  match image with
  | none => .error .unreadable
  | some image =>
    if image.length < 0x150 then .error .truncated
    else
      match cartType (imageByte image 0x147) with
      | none => .error (.unsupportedController (imageByte image 0x147))
      | some t =>
        match romBanks (imageByte image 0x148), ramBytesOf (imageByte image 0x149) with
        | some nrom, some declared =>
          if image.length < 16384 * nrom then .error .truncated
          else if checksumOk image then .ok (buildCart u t nrom declared image dump, false)
          else if u.params.checksumPolicy = .warn then .ok (buildCart u t nrom declared image dump, true)
          else .error .badChecksum
        | _, _ => .error .unsupportedSize

/-- The reset state around a cartridge (R900 to R906). -/
def resetWith (u : Setup) (c : Cart) : State :=
  { State.reset with
    cart := c
    params := u.params
    timer := { Timer.reset with div := u.divInit }
    ppu := { Ppu.reset with obp0 := u.draws.obp0, obp1 := u.draws.obp1 }
    apu := { Apu.reset with wave := Mem.ofBytesFrom 0 (u.draws.wave.take 16) }
    vram := Mem.ofBytesFrom 0 (u.draws.vram.take 8192)
    wram := Mem.ofBytesFrom 0 (u.draws.wram.take 8192)
    oam := Mem.ofBytesFrom 0 (u.draws.oam.take 160)
    hram := Mem.ofBytesFrom 0 (u.draws.hram.take 127) }

/-- Startup (R900): the state before the first iteration and the checksum warning, or a load error. -/
def powerOn (u : Setup) (image : Option (List Byte)) (dump : Option (List Byte)) : Except LoadError (State × Bool) :=
  match loadCart u image dump with
  | .error e => .error e
  | .ok (c, warned) => .ok (resetWith u c, warned)

/-- No draws: every byte of RAM the unlisted byte, OBP0 and OBP1 as `State.reset` has them (log 7, log 8). -/
def Draws.none : Draws :=
  { vram := [], wram := [], oam := [], hram := [], wave := [], eram := [], obp0 := 0x00#8, obp1 := 0x00#8 }

/-- The spec's defaults of R11. -/
def Setup.default : Setup :=
  { params := Params.default, divInit := 0xABCC#16,
    rtcInit := { s := 0#6, m := 0#6, hr := 0#5, dl := 0x00#8, dh := 0x00#8 }, draws := Draws.none }

end Sys2Proof.Machine
end

