-- ==== Sys2Proof/Safety.lean ====
section
/-! DEFINITION. Sys2Proof/Safety.lean: the invariants of the machine, the state in which a step runs an instruction, and
the frames the statements speak of. -/

namespace Sys2Proof.Machine

open Sys2Proof.Config

/-- A memory array of `n` cells in canonical form. -/
def Mem.fits (n : Nat) (m : Mem) : Bool := m.wf && m.below n

/-- Every memory array is canonical and within its size (R91, R100, R240). -/
structure MemoryInv (s : State) : Prop where
  vram : s.vram.fits 8192 = true
  wram : s.wram.fits 8192 = true
  oam : s.oam.fits 160 = true
  hram : s.hram.fits 127 = true
  wave : s.apu.wave.fits 16 = true
  rom : s.cart.rom.fits (s.cart.nrom * 0x4000) = true
  eram : s.cart.eram.fits s.cart.ramCells = true

/-- Control state of the processor (R54, R583, R585): an `EI` is pending only while IME is 0; the halt bug is armed
only in a processor that runs; it is never halted and stopped at once. -/
structure CpuInv (s : State) : Prop where
  delay : s.cpu.imeDelay ≤ 2
  delayOff : s.cpu.imeDelay ≠ 0 → s.cpu.ime = false
  stall : s.cpu.dmaStall ≤ 160
  bug : s.cpu.haltBug = true → s.cpu.halted = false ∧ s.cpu.stopped = false
  oneState : s.cpu.halted = true → s.cpu.stopped = false

/-- The mode R602 gives a line and a dot. -/
def modeAt (ly dot mode3End : Nat) : Mode :=
  if visibleLines ≤ ly then .vblank
  else if dot < oamScanDots then .oamScan
  else if dot < mode3End then .transfer
  else .hblank

/-- The pixel pipeline (R127, R601 to R603, R611, R615): ranges; the mode is R602's with the LCD on; with the LCD off
LY, dot and mode are 0; the coincidence flag compares LY with LYC. -/
structure PpuInv (p : Ppu) : Prop where
  ly : p.ly.toNat < linesPerFrame
  dot : p.dot < dotsPerLine
  endLow : 252 ≤ p.mode3End
  endHigh : p.mode3End ≤ 369
  modeOn : p.lcdOn = true → p.mode = modeAt p.ly.toNat p.dot p.mode3End
  off : p.lcdOn = false → p.ly = 0#8 ∧ p.dot = 0 ∧ p.mode = .hblank
  flag : p.coincidence = (p.ly == p.lyc)
  rows : p.fb.length = visibleLines
  columns : ∀ r ∈ p.fb, r.length = screenWidth

/-- The sound synthesizer (R128, R704, R705, R710, R711, R736): ranges; a running channel has its DAC on and length
left; with the power off every channel is off and every register 0. -/
structure ApuInv (a : Apu) : Prop where
  counter : a.fsCounter < fsPeriod
  seqStep : a.fsStep < 8
  sample : a.sampleT < clockHz
  length1 : a.ch1.length ≤ 64
  length2 : a.ch2.length ≤ 64
  length3 : a.ch3.length ≤ 256
  length4 : a.ch4.length ≤ 64
  timer1 : 0 < a.ch1.freqTimer
  timer2 : 0 < a.ch2.freqTimer
  timer3 : 0 < a.ch3.freqTimer
  timer4 : 0 < a.ch4.freqTimer
  sweepTimer : a.sweep.timer ≤ 8
  on1 : a.ch1.on = true → 0 < a.ch1.length ∧ dacOn a.regs.nr12 = true
  on2 : a.ch2.on = true → 0 < a.ch2.length ∧ dacOn a.regs.nr22 = true
  on3 : a.ch3.on = true → 0 < a.ch3.length ∧ a.regs.nr30.getLsbD 7 = true
  on4 : a.ch4.on = true → 0 < a.ch4.length ∧ dacOn a.regs.nr42 = true
  powerOff :
    a.power = false →
      a.regs = SoundRegs.zero ∧ a.fsCounter = 0 ∧ a.fsStep = 0 ∧
        a.ch1.on = false ∧ a.ch2.on = false ∧ a.ch3.on = false ∧ a.ch4.on = false

/-- The serial port (R126, R845, R846): a transfer in progress has its clock inside and SC bit 7 set. -/
structure SerialInv (p : Serial) : Prop where
  bits : p.bitsLeft ≤ 8
  timer : p.timer ≤ 512
  busy : p.bitsLeft ≠ 0 → p.start = true ∧ p.internal = true ∧ 0 < p.timer

/-- The unused bits of DH are not stored (R260). -/
def ClockRegs.masked (k : ClockRegs) : Prop := k.dh &&& 0x3E#8 = 0#8

/-- The cartridge (R224, R225, R260): there are banks to select from, and a clock keeps its registers' bits. -/
structure CartInv (c : Cart) : Prop where
  banks : 0 < c.nrom
  ramBanks : c.ramSize ≠ 0 → 0 < c.nram
  clock :
    ∀ r k, c.ctrl = .c r → r.clock = some k → k.sub < clockHz ∧ k.live.masked ∧ k.latched.masked

/-- All of the above. -/
structure Inv (s : State) : Prop where
  memory : MemoryInv s
  cpu : CpuInv s
  ppu : PpuInv s.ppu
  apu : ApuInv s.apu
  serial : SerialInv s.serial
  cart : CartInv s.cart

/-- What the run never changes: the image, the header's facts and the parameters (R11, R100, R129, R153), and what only
the host writes (R130, R880). -/
def SameFixed (s t : State) : Prop :=
  t.cart.rom = s.cart.rom ∧ t.cart.nrom = s.cart.nrom ∧ t.cart.nram = s.cart.nram ∧ t.cart.ramSize = s.cart.ramSize ∧
    t.cart.battery = s.cart.battery ∧ t.params = s.params ∧ t.buttons = s.buttons ∧ t.buttonsPrev = s.buttonsPrev ∧
    t.stopRequested = s.stopRequested

/-- The run is going on. -/
def State.running (s : State) : Prop := s.cpu.fatal = none ∧ s.ended = none

/-- The next step fetches and executes an instruction: the run is going on, nothing stalls, halts or stops the processor
and no interrupt is dispatched (R800). -/
def State.fetches (s : State) : Prop :=
  s.running ∧ s.cpu.dmaStall = 0 ∧ s.cpu.halted = false ∧ s.cpu.stopped = false ∧
    (s.cpu.ime = false ∨ s.pending = 0#5)

/-- Of the processor, only registers, flags, SP, pc and the cycle count may differ between `s` and `t`. -/
def SameControl (s t : State) : Prop :=
  t.cpu.ime = s.cpu.ime ∧ t.cpu.imeDelay = s.cpu.imeDelay ∧ t.cpu.halted = s.cpu.halted ∧
    t.cpu.stopped = s.cpu.stopped ∧ t.cpu.haltBug = s.cpu.haltBug ∧ t.cpu.fatal = s.cpu.fatal ∧
    t.cpu.opAddr = s.cpu.opAddr

/-- `s` and `t` differ in the processor at most: every memory, I/O register, IE, IF, device and host field is the same. -/
def SameOutside (s t : State) : Prop := t = { s with cpu := t.cpu }

/-- The frame of an instruction that stores nothing: no control state, nothing outside the processor, and so no byte
that can be read, has changed. -/
structure NoStore (s t : State) : Prop where
  control : SameControl s t
  stall : t.cpu.dmaStall = s.cpu.dmaStall
  outside : SameOutside s t
  bytes : ∀ a, memRead t a = memRead s a

/-- The general registers, the flags, SP and pc of `t` are those of `s`. -/
def SameRegisters (s t : State) : Prop :=
  (∀ r, t.getReg r = s.getReg r) ∧ t.cpu.f = s.cpu.f ∧ t.cpu.sp = s.cpu.sp ∧ t.cpu.pc = s.cpu.pc

/-- The flags as the four bits Z, N, H, C. -/
def Flags.are (f : Flags) (z n h c : Bool) : Prop := f.z = z ∧ f.n = n ∧ f.h = h ∧ f.c = c

/-- What a store of `v` to `a` leaves there is read back: WRAM or its echo, HRAM, IE, or VRAM or OAM while they are not
blocked (R71, R154, R156, R157, R158, R164). -/
def plainAt (s : State) (a : Word) : Prop :=
  match region a with
  | .wram _ => True
  | .hram _ => True
  | .ie => True
  | .vram _ => s.ppu.blocked = false
  | .oam _ => s.ppu.blocked = false
  | .rom _ => False
  | .eram _ => False
  | .unusable => False
  | .io _ => False

/-- The byte at `b` is the cartridge's. -/
def fromCartridge (b : Word) : Prop := b.toNat < 0x8000 ∨ 0xA000 ≤ b.toNat ∧ b.toNat < 0xC000

/-- The byte at `b` depends on the I/O registers: the I/O block, and VRAM and OAM, which the pixel pipeline hides and
OAM DMA fills (R154, R164, R190). -/
def fromDevices (b : Word) : Prop :=
  0x8000 ≤ b.toNat ∧ b.toNat < 0xA000 ∨ 0xFE00 ≤ b.toNat ∧ b.toNat < 0xFEA0 ∨
    0xFF00 ≤ b.toNat ∧ b.toNat < 0xFF80

/-- A bus write to `a` may change what `b` reads as. To plain storage: the one cell, wherever it shows (the echo). To
VRAM or OAM while blocked, and to 0xFEA0-0xFEFF: nothing. To the cartridge: what the cartridge shows, its external RAM
alone for a write to 0xA000-0xBFFF. To an I/O register: what the devices show. -/
def mayChange (s : State) (a b : Word) : Prop :=
  match region a with
  | .wram _ => region b = region a
  | .hram _ => region b = region a
  | .ie => region b = region a
  | .vram _ => s.ppu.blocked = false ∧ region b = region a
  | .oam _ => s.ppu.blocked = false ∧ region b = region a
  | .rom _ => fromCartridge b
  | .eram _ => 0xA000 ≤ b.toNat ∧ b.toNat < 0xC000
  | .unusable => False
  | .io _ => fromDevices b

/-- Everything outside the processor is as the bus write of `v` to `a` leaves it (R161), the control state is unchanged
but for the stall that write may start; a plain address reads back the byte, and no byte but those the write may change
has changed. -/
structure Stored (s t : State) (a : Word) (v : Byte) : Prop where
  control : SameControl s t
  stall : t.cpu.dmaStall = (memWrite s a v).cpu.dmaStall
  outside : SameOutside (memWrite s a v) t
  readBack : MemoryInv s → plainAt s a → memRead t a = v
  bytes : ∀ b, ¬mayChange s a b → memRead t b = memRead s b

/-- Two bus writes in order, `v` to `a` and then `w` to `b` (R14), with the frame of `Stored`. -/
structure StoredTwo (s t : State) (a : Word) (v : Byte) (b : Word) (w : Byte) : Prop where
  control : SameControl s t
  stall : t.cpu.dmaStall = (memWrite (memWrite s a v) b w).cpu.dmaStall
  outside : SameOutside (memWrite (memWrite s a v) b w) t
  readFirst :
    MemoryInv s → plainAt s a → ¬mayChange (memWrite s a v) b a → memRead t a = v
  readSecond : MemoryInv s → plainAt (memWrite s a v) b → memRead t b = w
  bytes :
    ∀ c, ¬mayChange s a c → ¬mayChange (memWrite s a v) b c → memRead t c = memRead s c

end Sys2Proof.Machine
end

