-- ==== Sys2Proof/Certificates/Slice0/Obligations.lean ====
section
/-! DEFINITION. Sys2Proof/Certificates/Slice0/Obligations.lean: the statements for the provers. In the statements about
`exec` the state `s` is the one after the fetch, so `s.cpu.pc` is the address of the next instruction (R18; log 3), and
each states the instruction's bytes too. -/

open Sys2Proof Sys2Proof.Machine Sys2Proof.Config

/-- Decoding the bytes of a well-formed instruction gives it back, whatever follows (R300, R301, R308 to R310, R320,
R321, R340). Covers every constructor but `prefixCb`, which is not well formed (log 18). -/
def Obligations.DecodeEncode : Prop :=
  ∀ (i : Instr) (rest : List Byte), i.wf = true → decode (encode i ++ rest) = .ok (i, rest)

/-- Any bytes as long as their first byte asks for are a well-formed instruction whose encoding they are: no two byte
strings of that length mean the same, and none is refused (R300, R309, R310, R341). -/
def Obligations.EncodeDecode : Prop :=
  ∀ (op b1 b2 : Byte) (rest : List Byte),
    ∃ i, decode (op :: b1 :: b2 :: rest) = .ok (i, (b1 :: b2 :: rest).drop (instrLength op - 1)) ∧ i.wf = true ∧
      encode i = [op, b1, b2].take (instrLength op)

/-- Seventeen words, of every family, written out from the spec's encodings decode to what they stand for; the prefix with
nothing after it is refused. -/
def Obligations.SpecWords : Prop :=
  decode [0b01000001#8] = .ok (.ldBC, []) ∧
  decode [0b00111110#8, 0x05#8] = .ok (.ldAN8 0x05#8, []) ∧
  decode [0b11101010#8, 0x34#8, 0xC2#8] = .ok (.ldAtN16A 0xC234#16, []) ∧
  decode [0b11110101#8] = .ok (.pushAf, []) ∧
  decode [0b10011110#8] = .ok (.sbcAAtHl, []) ∧
  decode [0b11111110#8, 0x40#8] = .ok (.cpN8 0x40#8, []) ∧
  decode [0b00110100#8] = .ok (.incAtHl, []) ∧
  decode [0b00011011#8] = .ok (.decDe, []) ∧
  decode [0b00111001#8] = .ok (.addHlSp, []) ∧
  decode [0b00010111#8] = .ok (.rla, []) ∧
  decode [0xCB#8, 0b00110111#8] = .ok (.swapA, []) ∧
  decode [0xCB#8, 0b01111100#8] = .ok (.bit7H, []) ∧
  decode [0b00101000#8, 0x10#8] = .ok (.jrZE8 0x10#8, []) ∧
  decode [0b11011100#8, 0x00#8, 0x30#8] = .ok (.callCN16 0x3000#16, []) ∧
  decode [0b11101111#8] = .ok (.rst28, []) ∧
  decode [0b01110110#8] = .ok (.halt, []) ∧
  decode [0xD3#8] = .ok (.undefD3, []) ∧
  decode [0xCB#8] = .error (.missingOperand 0xCB#8)

/-- The prefix row executes the entry of R321 that its second byte selects (R310); it completes for every second byte.
Covers `prefixCb`. -/
def Obligations.PrefixRunsEntry : Prop :=
  ∀ (op2 : Byte) (s : State),
    ∃ t, exec (.prefixCb op2) s = .next t ∧ exec (cellAt cbMap op2) s = .next t

/-- When the bytes at pc (the byte after the opcode being at pc itself while the halt bug is armed) decode to `i` and
nothing keeps the processor from fetching, the step is `exec i` on the state whose pc is past the instruction's bytes,
followed by the countdown of `EI` and by the devices' T-cycles (R800, R860). -/
def Obligations.StepRunsInstruction : Prop :=
  ∀ (s : State) (i : Instr) (rest : List Byte),
    s.fetches →
    decode [memRead s s.cpu.pc, memRead s s.operandPc, memRead s (s.operandPc + 1#16)] = .ok (i, rest) →
    s.operandPc = (if s.cpu.haltBug then s.cpu.pc else s.cpu.pc + 1#16) ∧
    s.afterFetch =
      { s with
        cpu :=
          { s.cpu with
            pc := s.operandPc + BitVec.ofNat 16 ((encode i).length - 1), haltBug := false, opAddr := s.cpu.pc } } ∧
    step s =
      (match exec i s.afterFetch with
        | .next t => .next (finishIteration t.afterInstr)
        | .fault r => .fault r
        | .refused r => .refused r)

/-- `LD r,r'`, `LD r,n8` and `LD r,(HL)`: the destination holds the source's value from before, and nothing else but
the cycle count changes (R400, R401, R402). Covers the 63 constructors of `Forms.ldReg`, `Forms.ldImm` and
`Forms.ldAtHl`. -/
def Obligations.LoadRegister : Prop :=
  ∀ (dst src : Reg8) (n : Byte) (s : State),
    encode (Forms.ldReg dst src) = [BitVec.ofNat 8 (0x40 + 8 * Forms.regCode dst + Forms.regCode src)] ∧
    (∃ t, exec (Forms.ldReg dst src) s = .next t ∧ (∀ x, t.getReg x = if x = dst then s.getReg src else s.getReg x) ∧
      t.cpu.f = s.cpu.f ∧ t.cpu.sp = s.cpu.sp ∧ t.cpu.pc = s.cpu.pc ∧ t.cpu.cycles = 1 ∧ NoStore s t) ∧
    encode (Forms.ldImm n dst) = [BitVec.ofNat 8 (0x06 + 8 * Forms.regCode dst), n] ∧
    (∃ t, exec (Forms.ldImm n dst) s = .next t ∧ (∀ x, t.getReg x = if x = dst then n else s.getReg x) ∧
      t.cpu.f = s.cpu.f ∧ t.cpu.sp = s.cpu.sp ∧ t.cpu.pc = s.cpu.pc ∧ t.cpu.cycles = 2 ∧ NoStore s t) ∧
    encode (Forms.ldAtHl dst) = [BitVec.ofNat 8 (0x46 + 8 * Forms.regCode dst)] ∧
    (∃ t, exec (Forms.ldAtHl dst) s = .next t ∧ (∀ x, t.getReg x = if x = dst then memRead s s.hl else s.getReg x) ∧
      t.cpu.f = s.cpu.f ∧ t.cpu.sp = s.cpu.sp ∧ t.cpu.pc = s.cpu.pc ∧ t.cpu.cycles = 2 ∧ NoStore s t)

/-- `LD A,(BC)`, `LD A,(DE)`, `LD A,(HL+)`, `LD A,(HL-)` (R405, R406, R417, R418): A from the address the pair held, HL
moved by one modulo 2^16 in the last two. Covers the 4 constructors of `Forms.ldA`. -/
def Obligations.LoadThroughPointer : Prop :=
  ∀ (p : Pointer) (s : State),
    encode (Forms.ldA p) =
      (match p with | .bc => [0x0A#8] | .de => [0x1A#8] | .hlInc => [0x2A#8] | .hlDec => [0x3A#8]) ∧
    ∃ t, exec (Forms.ldA p) s = .next t ∧
      t.cpu.a =
        memRead s (match p with | .bc => s.bc | .de => s.de | .hlInc => s.hl | .hlDec => s.hl) ∧
      t.hl = (match p with | .bc => s.hl | .de => s.hl | .hlInc => s.hl + 1#16 | .hlDec => s.hl - 1#16) ∧
      t.bc = s.bc ∧ t.de = s.de ∧ t.cpu.f = s.cpu.f ∧ t.cpu.sp = s.cpu.sp ∧ t.cpu.pc = s.cpu.pc ∧
      t.cpu.cycles = 2 ∧ NoStore s t

/-- `LD A,(n16)`, `LDH A,(n8)`, `LD A,(C)` (R409, R412, R414). Covers `ldAAtN16`, `ldhAAtN8`, `ldAAtC`. -/
def Obligations.LoadAbsolute : Prop :=
  ∀ (a : Word) (n : Byte) (s : State),
    encode (.ldAAtN16 a) = Forms.withWord 0xFA a ∧ encode (.ldhAAtN8 n) = [0xF0#8, n] ∧ encode .ldAAtC = [0xF2#8] ∧
    (∃ t, exec (.ldAAtN16 a) s = .next t ∧ (∀ x, t.getReg x = if x = .a then memRead s a else s.getReg x) ∧
      t.cpu.f = s.cpu.f ∧ t.cpu.sp = s.cpu.sp ∧ t.cpu.pc = s.cpu.pc ∧ t.cpu.cycles = 4 ∧ NoStore s t) ∧
    (∃ t, exec (.ldhAAtN8 n) s = .next t ∧
      (∀ x, t.getReg x = if x = .a then memRead s (0xFF00#16 + n.setWidth 16) else s.getReg x) ∧
      t.cpu.f = s.cpu.f ∧ t.cpu.sp = s.cpu.sp ∧ t.cpu.pc = s.cpu.pc ∧ t.cpu.cycles = 3 ∧ NoStore s t) ∧
    (∃ t, exec .ldAAtC s = .next t ∧
      (∀ x, t.getReg x = if x = .a then memRead s (0xFF00#16 + s.cpu.c.setWidth 16) else s.getReg x) ∧
      t.cpu.f = s.cpu.f ∧ t.cpu.sp = s.cpu.sp ∧ t.cpu.pc = s.cpu.pc ∧ t.cpu.cycles = 2 ∧ NoStore s t)

/-- `LD dd,n16` and `LD SP,HL` (R419, R421). Covers the 4 constructors of `Forms.ldPair`, and `ldSpHl`. -/
def Obligations.LoadPair : Prop :=
  ∀ (dd : Pair) (v : Word) (s : State),
    encode (Forms.ldPair v dd) = Forms.withWord (0x01 + 16 * Forms.pairCode dd) v ∧ encode .ldSpHl = [0xF9#8] ∧
    (∃ t, exec (Forms.ldPair v dd) s = .next t ∧ (∀ q, t.getPair q = if q = dd then v else s.getPair q) ∧
      t.cpu.a = s.cpu.a ∧ t.cpu.f = s.cpu.f ∧ t.cpu.pc = s.cpu.pc ∧ t.cpu.cycles = 3 ∧ NoStore s t) ∧
    (∃ t, exec .ldSpHl s = .next t ∧ t.cpu.sp = s.hl ∧ (∀ x, t.getReg x = s.getReg x) ∧ t.cpu.f = s.cpu.f ∧
      t.cpu.pc = s.cpu.pc ∧ t.cpu.cycles = 2 ∧ NoStore s t)

/-- `POP qq` (R423, R424): the low byte from SP, the high byte from SP + 1, SP moved by 2; AF keeps bits 7-4 of the low
byte only; the other pairs stay. Covers the 4 constructors of `Forms.pop`. -/
def Obligations.PopPair : Prop :=
  ∀ (q : StackPair) (s : State),
    encode (Forms.pop q) = [BitVec.ofNat 8 (0xC1 + 16 * Forms.stackCode q)] ∧
    ∃ t, exec (Forms.pop q) s = .next t ∧
      t.getStackPair q =
        hilo (memRead s (s.cpu.sp + 1#16))
          (if q = .af then memRead s s.cpu.sp &&& 0xF0#8 else memRead s s.cpu.sp) ∧
      (∀ p, p ≠ q → t.getStackPair p = s.getStackPair p) ∧ (q ≠ .af → t.cpu.f = s.cpu.f) ∧
      (q = .af →
        t.cpu.f.are ((memRead s s.cpu.sp).getLsbD 7) ((memRead s s.cpu.sp).getLsbD 6)
          ((memRead s s.cpu.sp).getLsbD 5) ((memRead s s.cpu.sp).getLsbD 4)) ∧
      t.cpu.sp = s.cpu.sp + 2#16 ∧ t.cpu.pc = s.cpu.pc ∧ t.cpu.cycles = 3 ∧ NoStore s t

/-- `LD (HL),r` and `LD (HL),n8` (R403, R404). Covers the 7 constructors of `Forms.stAtHl`, and `ldAtHlN8`. -/
def Obligations.StoreAtHl : Prop :=
  ∀ (r : Reg8) (n : Byte) (s : State),
    encode (Forms.stAtHl r) = [BitVec.ofNat 8 (0x70 + Forms.regCode r)] ∧ encode (.ldAtHlN8 n) = [0x36#8, n] ∧
    (∃ t, exec (Forms.stAtHl r) s = .next t ∧ Stored s t s.hl (s.getReg r) ∧ SameRegisters s t ∧ t.cpu.cycles = 2) ∧
    (∃ t, exec (.ldAtHlN8 n) s = .next t ∧ Stored s t s.hl n ∧ SameRegisters s t ∧ t.cpu.cycles = 3)

/-- `LD (BC),A`, `LD (DE),A`, `LD (HL+),A`, `LD (HL-),A` (R407, R408, R415, R416): A to the address the pair held, HL
moved by one modulo 2^16 in the last two. Covers the 4 constructors of `Forms.stA`. -/
def Obligations.StoreThroughPointer : Prop :=
  ∀ (p : Pointer) (s : State),
    encode (Forms.stA p) =
      (match p with | .bc => [0x02#8] | .de => [0x12#8] | .hlInc => [0x22#8] | .hlDec => [0x32#8]) ∧
    ∃ t, exec (Forms.stA p) s = .next t ∧
      Stored s t (match p with | .bc => s.bc | .de => s.de | .hlInc => s.hl | .hlDec => s.hl) s.cpu.a ∧
      t.hl = (match p with | .bc => s.hl | .de => s.hl | .hlInc => s.hl + 1#16 | .hlDec => s.hl - 1#16) ∧
      t.bc = s.bc ∧ t.de = s.de ∧ t.cpu.a = s.cpu.a ∧ t.cpu.f = s.cpu.f ∧ t.cpu.sp = s.cpu.sp ∧
      t.cpu.pc = s.cpu.pc ∧ t.cpu.cycles = 2

/-- `LD (n16),A`, `LDH (n8),A`, `LD (C),A` and `LD (n16),SP` (R410, R411, R413, R420): the last stores the low byte of SP
at `a`, then the high byte at `a + 1` modulo 2^16. Covers `ldAtN16A`, `ldhAtN8A`, `ldAtCA`, `ldAtN16Sp`. -/
def Obligations.StoreAbsolute : Prop :=
  ∀ (a : Word) (n : Byte) (s : State),
    encode (.ldAtN16A a) = Forms.withWord 0xEA a ∧ encode (.ldhAtN8A n) = [0xE0#8, n] ∧ encode .ldAtCA = [0xE2#8] ∧
    encode (.ldAtN16Sp a) = Forms.withWord 0x08 a ∧
    (∃ t, exec (.ldAtN16A a) s = .next t ∧ Stored s t a s.cpu.a ∧ SameRegisters s t ∧ t.cpu.cycles = 4) ∧
    (∃ t, exec (.ldhAtN8A n) s = .next t ∧ Stored s t (0xFF00#16 + n.setWidth 16) s.cpu.a ∧ SameRegisters s t ∧
      t.cpu.cycles = 3) ∧
    (∃ t, exec .ldAtCA s = .next t ∧ Stored s t (0xFF00#16 + s.cpu.c.setWidth 16) s.cpu.a ∧ SameRegisters s t ∧
      t.cpu.cycles = 2) ∧
    (∃ t, exec (.ldAtN16Sp a) s = .next t ∧
      StoredTwo s t a (s.cpu.sp.extractLsb' 0 8) (a + 1#16) (s.cpu.sp.extractLsb' 8 8) ∧ SameRegisters s t ∧
      t.cpu.cycles = 5)

/-- `PUSH qq` (R422, R14): the high byte to SP - 1, then the low byte to SP - 2, SP moved down by 2; F is pushed with
bits 3-0 zero. Covers the 4 constructors of `Forms.push`. -/
def Obligations.Push : Prop :=
  ∀ (q : StackPair) (s : State),
    encode (Forms.push q) = [BitVec.ofNat 8 (0xC5 + 16 * Forms.stackCode q)] ∧
    ∃ t, exec (Forms.push q) s = .next t ∧
      StoredTwo s t (s.cpu.sp - 1#16)
        (match q with | .bc => s.cpu.b | .de => s.cpu.d | .hl => s.cpu.h | .af => s.cpu.a) (s.cpu.sp - 2#16)
        (match q with
          | .bc => s.cpu.c
          | .de => s.cpu.e
          | .hl => s.cpu.l
          | .af =>
            BitVec.ofNat 8
              (128 * bit s.cpu.f.z + 64 * bit s.cpu.f.n + 32 * bit s.cpu.f.h + 16 * bit s.cpu.f.c)) ∧
      t.cpu.sp = s.cpu.sp - 2#16 ∧ (∀ x, t.getReg x = s.getReg x) ∧ t.cpu.f = s.cpu.f ∧ t.cpu.pc = s.cpu.pc ∧
      t.cpu.cycles = 4

/-- `ADD A,s` and `ADC A,s` (R451, R452): the exact sum of A, the operand and, for `ADC`, the carry, reduced modulo 2^8;
H and C are its carries out of bits 3 and 7. Covers the 18 constructors of `Forms.alu` at `add` and `adc`. -/
def Obligations.AddAndAdc : Prop :=
  ∀ (carry : Bool) (src : Source) (s : State),
    encode (Forms.alu (if carry then .adc else .add) src) = Forms.aluBytes (if carry then .adc else .add) src ∧
    ∃ t, exec (Forms.alu (if carry then .adc else .add) src) s = .next t ∧
      t.cpu.a.toNat = (s.cpu.a.toNat + (s.source src).toNat + bit (carry && s.cpu.f.c)) % 256 ∧
      t.cpu.f.are (t.cpu.a == 0#8) false
        (decide (16 ≤ s.cpu.a.toNat % 16 + (s.source src).toNat % 16 + bit (carry && s.cpu.f.c)))
        (decide (256 ≤ s.cpu.a.toNat + (s.source src).toNat + bit (carry && s.cpu.f.c))) ∧
      (∀ x, x ≠ .a → t.getReg x = s.getReg x) ∧ t.cpu.sp = s.cpu.sp ∧ t.cpu.pc = s.cpu.pc ∧
      t.cpu.cycles = (match src with | .reg _ => 1 | .atHl => 2 | .imm _ => 2) ∧ NoStore s t

/-- `SUB s`, `SBC A,s` and `CP s` (R453, R454, R458): the exact difference modulo 2^8, which `CP` does not store; H and
C are the borrows into bits 3 and 7. Covers the 27 constructors of `Forms.alu` at `sub`, `sbc` and `cp`. -/
def Obligations.SubSbcAndCp : Prop :=
  ∀ (op : AluOp) (src : Source) (s : State),
    (op = .sub ∨ op = .sbc ∨ op = .cp) →
    encode (Forms.alu op src) = Forms.aluBytes op src ∧
    ∃ t r, exec (Forms.alu op src) s = .next t ∧
      r = (s.cpu.a.toNat + 512 - (s.source src).toNat - bit (decide (op = .sbc) && s.cpu.f.c)) % 256 ∧
      t.cpu.a.toNat = (if op = .cp then s.cpu.a.toNat else r) ∧
      t.cpu.f.are (decide (r = 0)) true
        (decide (s.cpu.a.toNat % 16 < (s.source src).toNat % 16 + bit (decide (op = .sbc) && s.cpu.f.c)))
        (decide (s.cpu.a.toNat < (s.source src).toNat + bit (decide (op = .sbc) && s.cpu.f.c))) ∧
      (∀ x, x ≠ .a → t.getReg x = s.getReg x) ∧ t.cpu.sp = s.cpu.sp ∧ t.cpu.pc = s.cpu.pc ∧
      t.cpu.cycles = (match src with | .reg _ => 1 | .atHl => 2 | .imm _ => 2) ∧ NoStore s t

/-- `AND s`, `XOR s` and `OR s` (R455, R456, R457), bit by bit; N and C are 0, H is 1 for `AND` and 0 otherwise. Covers
the 27 constructors of `Forms.alu` at `and`, `xor` and `or`. -/
def Obligations.Logic : Prop :=
  ∀ (op : AluOp) (src : Source) (s : State),
    (op = .and ∨ op = .xor ∨ op = .or) →
    encode (Forms.alu op src) = Forms.aluBytes op src ∧
    ∃ t, exec (Forms.alu op src) s = .next t ∧
      (∀ k < 8,
        t.cpu.a.getLsbD k =
          (if op = .and then s.cpu.a.getLsbD k && (s.source src).getLsbD k
            else if op = .xor then s.cpu.a.getLsbD k != (s.source src).getLsbD k
            else s.cpu.a.getLsbD k || (s.source src).getLsbD k)) ∧
      t.cpu.f.are (t.cpu.a == 0#8) false (decide (op = .and)) false ∧
      (∀ x, x ≠ .a → t.getReg x = s.getReg x) ∧ t.cpu.sp = s.cpu.sp ∧ t.cpu.pc = s.cpu.pc ∧
      t.cpu.cycles = (match src with | .reg _ => 1 | .atHl => 2 | .imm _ => 2) ∧ NoStore s t

/-- Laws of the ALU group (R470): for an operand other than A, `SUB s` then `ADD A,s` restores A; `CP s` keeps A and
sets the flags of `SUB s`; after either, C says that the operand is greater than A and, after `CP s`, Z that it equals
A. -/
def Obligations.AluLaws : Prop :=
  ∀ (src : Source) (s : State),
    src ≠ .reg .a →
    ∃ t u v, exec (Forms.alu .sub src) s = .next t ∧ exec (Forms.alu .add src) t = .next u ∧
      exec (Forms.alu .cp src) s = .next v ∧
      u.cpu.a = s.cpu.a ∧ v.cpu.a = s.cpu.a ∧ v.cpu.f = t.cpu.f ∧
      (v.cpu.f.c = true ↔ s.cpu.a.toNat < (s.source src).toNat) ∧ (v.cpu.f.z = true ↔ s.source src = s.cpu.a)

/-- `INC r` and `DEC r` (R460, R461): one modulo 2^8 up or down; H looks at the low nibble, C is kept. Covers the 14
constructors of `Forms.inc` and `Forms.dec`. -/
def Obligations.IncDecRegister : Prop :=
  ∀ (r : Reg8) (s : State),
    encode (Forms.inc r) = [BitVec.ofNat 8 (0x04 + 8 * Forms.regCode r)] ∧
    encode (Forms.dec r) = [BitVec.ofNat 8 (0x05 + 8 * Forms.regCode r)] ∧
    (∃ t, exec (Forms.inc r) s = .next t ∧
      (t.getReg r).toNat = ((s.getReg r).toNat + 1) % 256 ∧ (∀ x, x ≠ r → t.getReg x = s.getReg x) ∧
      t.cpu.f.are (decide ((s.getReg r).toNat = 255)) false (decide ((s.getReg r).toNat % 16 = 15)) s.cpu.f.c ∧
      t.cpu.sp = s.cpu.sp ∧ t.cpu.pc = s.cpu.pc ∧ t.cpu.cycles = 1 ∧ NoStore s t) ∧
    (∃ t, exec (Forms.dec r) s = .next t ∧
      (t.getReg r).toNat = ((s.getReg r).toNat + 255) % 256 ∧ (∀ x, x ≠ r → t.getReg x = s.getReg x) ∧
      t.cpu.f.are (decide ((s.getReg r).toNat = 1)) true (decide ((s.getReg r).toNat % 16 = 0)) s.cpu.f.c ∧
      t.cpu.sp = s.cpu.sp ∧ t.cpu.pc = s.cpu.pc ∧ t.cpu.cycles = 1 ∧ NoStore s t)

/-- `INC (HL)` and `DEC (HL)` (R462, R463): the byte read at HL, one up or down modulo 2^8, is offered to the bus at HL;
the flags are those of the byte. Covers `incAtHl` and `decAtHl`. -/
def Obligations.IncDecAtHl : Prop :=
  ∀ (s : State),
    encode .incAtHl = [0x34#8] ∧ encode .decAtHl = [0x35#8] ∧
    (∃ t, exec .incAtHl s = .next t ∧ Stored s t s.hl (BitVec.ofNat 8 ((memRead s s.hl).toNat + 1)) ∧
      t.cpu.f.are (decide ((memRead s s.hl).toNat = 255)) false (decide ((memRead s s.hl).toNat % 16 = 15))
        s.cpu.f.c ∧
      (∀ x, t.getReg x = s.getReg x) ∧ t.cpu.sp = s.cpu.sp ∧ t.cpu.pc = s.cpu.pc ∧ t.cpu.cycles = 3) ∧
    (∃ t, exec .decAtHl s = .next t ∧ Stored s t s.hl (BitVec.ofNat 8 ((memRead s s.hl).toNat + 255)) ∧
      t.cpu.f.are (decide ((memRead s s.hl).toNat = 1)) true (decide ((memRead s s.hl).toNat % 16 = 0))
        s.cpu.f.c ∧
      (∀ x, t.getReg x = s.getReg x) ∧ t.cpu.sp = s.cpu.sp ∧ t.cpu.pc = s.cpu.pc ∧ t.cpu.cycles = 3)

/-- `DAA` (R465), every A and flag combination, the second test of an addition being made on the value the first
correction leaves. Covers `daa`. -/
def Obligations.DecimalAdjust : Prop :=
  ∀ (s : State),
    encode .daa = [0x27#8] ∧
    ∃ t m, exec .daa s = .next t ∧
      m =
        (if s.cpu.f.n then (s.cpu.a.toNat + 256 - (if s.cpu.f.c then 0x60 else 0)) % 256
          else (s.cpu.a.toNat + (if s.cpu.f.c ∨ 0x99 < s.cpu.a.toNat then 0x60 else 0)) % 256) ∧
      t.cpu.a.toNat =
        (if s.cpu.f.n then (m + 256 - (if s.cpu.f.h then 6 else 0)) % 256
          else (m + (if s.cpu.f.h ∨ 9 < m % 16 then 6 else 0)) % 256) ∧
      t.cpu.f.are (t.cpu.a == 0#8) s.cpu.f.n false
        (s.cpu.f.c || (!s.cpu.f.n && decide (0x99 < s.cpu.a.toNat))) ∧
      (∀ x, x ≠ .a → t.getReg x = s.getReg x) ∧ t.cpu.sp = s.cpu.sp ∧ t.cpu.pc = s.cpu.pc ∧ t.cpu.cycles = 1 ∧
      NoStore s t

/-- `CPL`, `SCF` and `CCF` (R466, R467, R468). Covers `cpl`, `scf` and `ccf`. -/
def Obligations.ComplementAndCarry : Prop :=
  ∀ (s : State),
    encode .cpl = [0x2F#8] ∧ encode .scf = [0x37#8] ∧ encode .ccf = [0x3F#8] ∧
    (∃ t, exec .cpl s = .next t ∧ t.cpu.a.toNat = 255 - s.cpu.a.toNat ∧
      t.cpu.f.are s.cpu.f.z true true s.cpu.f.c ∧ (∀ x, x ≠ .a → t.getReg x = s.getReg x) ∧
      t.cpu.sp = s.cpu.sp ∧ t.cpu.pc = s.cpu.pc ∧ t.cpu.cycles = 1 ∧ NoStore s t) ∧
    (∃ t, exec .scf s = .next t ∧ t.cpu.f.are s.cpu.f.z false false true ∧ (∀ x, t.getReg x = s.getReg x) ∧
      t.cpu.sp = s.cpu.sp ∧ t.cpu.pc = s.cpu.pc ∧ t.cpu.cycles = 1 ∧ NoStore s t) ∧
    (∃ t, exec .ccf s = .next t ∧ t.cpu.f.are s.cpu.f.z false false (!s.cpu.f.c) ∧
      (∀ x, t.getReg x = s.getReg x) ∧ t.cpu.sp = s.cpu.sp ∧ t.cpu.pc = s.cpu.pc ∧ t.cpu.cycles = 1 ∧
      NoStore s t)

/-- `INC dd` and `DEC dd` (R490, R491): one modulo 2^16, no flag. Covers the 8 constructors of `Forms.incPair` and
`Forms.decPair`. -/
def Obligations.IncDecPair : Prop :=
  ∀ (dd : Pair) (s : State),
    encode (Forms.incPair dd) = [BitVec.ofNat 8 (0x03 + 16 * Forms.pairCode dd)] ∧
    encode (Forms.decPair dd) = [BitVec.ofNat 8 (0x0B + 16 * Forms.pairCode dd)] ∧
    (∃ t, exec (Forms.incPair dd) s = .next t ∧
      (∀ q, t.getPair q = if q = dd then s.getPair q + 1#16 else s.getPair q) ∧ t.cpu.a = s.cpu.a ∧
      t.cpu.f = s.cpu.f ∧ t.cpu.pc = s.cpu.pc ∧ t.cpu.cycles = 2 ∧ NoStore s t) ∧
    (∃ t, exec (Forms.decPair dd) s = .next t ∧
      (∀ q, t.getPair q = if q = dd then s.getPair q - 1#16 else s.getPair q) ∧ t.cpu.a = s.cpu.a ∧
      t.cpu.f = s.cpu.f ∧ t.cpu.pc = s.cpu.pc ∧ t.cpu.cycles = 2 ∧ NoStore s t)

/-- `ADD HL,dd` (R492): the exact sum modulo 2^16; H and C its carries out of bits 11 and 15, Z kept. Covers the 4
constructors of `Forms.addHl`. -/
def Obligations.AddToHl : Prop :=
  ∀ (dd : Pair) (s : State),
    encode (Forms.addHl dd) = [BitVec.ofNat 8 (0x09 + 16 * Forms.pairCode dd)] ∧
    ∃ t, exec (Forms.addHl dd) s = .next t ∧ t.hl.toNat = (s.hl.toNat + (s.getPair dd).toNat) % 65536 ∧
      t.cpu.f.are s.cpu.f.z false (decide (4096 ≤ s.hl.toNat % 4096 + (s.getPair dd).toNat % 4096))
        (decide (65536 ≤ s.hl.toNat + (s.getPair dd).toNat)) ∧
      t.bc = s.bc ∧ t.de = s.de ∧ t.cpu.sp = s.cpu.sp ∧ t.cpu.a = s.cpu.a ∧ t.cpu.pc = s.cpu.pc ∧
      t.cpu.cycles = 2 ∧ NoStore s t

/-- `ADD SP,e8` and `LD HL,SP+e8` (R493, R494): SP plus the signed displacement modulo 2^16; Z and N are 0, H and C the
carries of the unsigned addition of SP's low byte and the displacement's byte. Covers `addSpE8` and `ldHlSpE8`. -/
def Obligations.SpPlusDisplacement : Prop :=
  ∀ (e : Byte) (s : State),
    encode (.addSpE8 e) = [0xE8#8, e] ∧ encode (.ldHlSpE8 e) = [0xF8#8, e] ∧
    (∃ t, exec (.addSpE8 e) s = .next t ∧ (t.cpu.sp.toNat : Int) = ((s.cpu.sp.toNat : Int) + e.toInt) % 65536 ∧
      t.cpu.f.are false false (decide (16 ≤ s.cpu.sp.toNat % 16 + e.toNat % 16))
        (decide (256 ≤ s.cpu.sp.toNat % 256 + e.toNat)) ∧
      (∀ x, t.getReg x = s.getReg x) ∧ t.cpu.pc = s.cpu.pc ∧ t.cpu.cycles = 4 ∧ NoStore s t) ∧
    (∃ t, exec (.ldHlSpE8 e) s = .next t ∧ (t.hl.toNat : Int) = ((s.cpu.sp.toNat : Int) + e.toInt) % 65536 ∧
      t.cpu.f.are false false (decide (16 ≤ s.cpu.sp.toNat % 16 + e.toNat % 16))
        (decide (256 ≤ s.cpu.sp.toNat % 256 + e.toNat)) ∧
      t.cpu.sp = s.cpu.sp ∧ t.bc = s.bc ∧ t.de = s.de ∧ t.cpu.a = s.cpu.a ∧ t.cpu.pc = s.cpu.pc ∧
      t.cpu.cycles = 3 ∧ NoStore s t)

/-- `RLCA`, `RRCA`, `RLA`, `RRA` (R510 to R513): the rotation as arithmetic on the value, Z always 0. Covers `rlca`,
`rrca`, `rla` and `rra`. -/
def Obligations.RotateAccumulator : Prop :=
  ∀ (i : Instr) (s : State),
    (i = .rlca ∨ i = .rrca ∨ i = .rla ∨ i = .rra) →
    encode i =
      [if i = .rlca then 0x07#8 else if i = .rrca then 0x0F#8 else if i = .rla then 0x17#8 else 0x1F#8] ∧
    ∃ t, exec i s = .next t ∧
      t.cpu.a.toNat =
        (if i = .rlca then s.cpu.a.toNat * 2 % 256 + s.cpu.a.toNat / 128
          else if i = .rrca then s.cpu.a.toNat / 2 + s.cpu.a.toNat % 2 * 128
          else if i = .rla then s.cpu.a.toNat * 2 % 256 + bit s.cpu.f.c
          else s.cpu.a.toNat / 2 + bit s.cpu.f.c * 128) ∧
      t.cpu.f.are false false false
        (decide ((if i = .rlca ∨ i = .rla then s.cpu.a.toNat / 128 else s.cpu.a.toNat % 2) = 1)) ∧
      (∀ x, x ≠ .a → t.getReg x = s.getReg x) ∧ t.cpu.sp = s.cpu.sp ∧ t.cpu.pc = s.cpu.pc ∧ t.cpu.cycles = 1 ∧
      NoStore s t

/-- The prefixed rotates and shifts (R514 to R522) on a register or on the byte at HL: the result as arithmetic on the
value, Z from the result, C the bit shifted out (0 for `SWAP`). Covers the 64 constructors of `Forms.shift`. -/
def Obligations.RotateAndShift : Prop :=
  ∀ (op : ShiftOp) (x : Target) (s : State),
    encode (Forms.shift op x) = [0xCB#8, BitVec.ofNat 8 (8 * Forms.shiftCode op + Forms.targetCode x)] ∧
    ∃ t v w, exec (Forms.shift op x) s = .next t ∧ v = (s.target x).toNat ∧
      w =
        BitVec.ofNat 8
          (match op with
            | .rlc => v * 2 % 256 + v / 128
            | .rrc => v / 2 + v % 2 * 128
            | .rl => v * 2 % 256 + bit s.cpu.f.c
            | .rr => v / 2 + bit s.cpu.f.c * 128
            | .sla => v * 2 % 256
            | .sra => v / 2 + v / 128 * 128
            | .swap => v % 16 * 16 + v / 16
            | .srl => v / 2) ∧
      t.cpu.f.are (w == 0#8) false false
        (match op with
          | .rlc => decide (128 ≤ v)
          | .rl => decide (128 ≤ v)
          | .sla => decide (128 ≤ v)
          | .swap => false
          | .rrc => decide (v % 2 = 1)
          | .rr => decide (v % 2 = 1)
          | .sra => decide (v % 2 = 1)
          | .srl => decide (v % 2 = 1)) ∧
      (match x with
        | .reg r => (∀ y, t.getReg y = if y = r then w else s.getReg y) ∧ t.cpu.cycles = 2 ∧ NoStore s t
        | .atHl => (∀ y, t.getReg y = s.getReg y) ∧ t.cpu.cycles = 4 ∧ Stored s t s.hl w) ∧
      t.cpu.sp = s.cpu.sp ∧ t.cpu.pc = s.cpu.pc

/-- `BIT b,s` (R525): Z is the complement of the bit, C is kept, nothing is written. Covers the 64 constructors of
`Forms.bitAt`. -/
def Obligations.TestBit : Prop :=
  ∀ (b : Fin 8) (x : Target) (s : State),
    encode (Forms.bitAt b x) = [0xCB#8, BitVec.ofNat 8 (0x40 + 8 * b.val + Forms.targetCode x)] ∧
    ∃ t, exec (Forms.bitAt b x) s = .next t ∧
      t.cpu.f.are (decide ((s.target x).toNat / 2 ^ b.val % 2 = 0)) false true s.cpu.f.c ∧
      (∀ y, t.getReg y = s.getReg y) ∧ t.cpu.sp = s.cpu.sp ∧ t.cpu.pc = s.cpu.pc ∧
      t.cpu.cycles = (match x with | .reg _ => 2 | .atHl => 3) ∧ NoStore s t

/-- `RES b,s` and `SET b,s` (R526, R527): bit b cleared or set, every other bit kept, no flag; on the byte at HL it is
written back whatever it was. Covers the 128 constructors of `Forms.resAt` and `Forms.setAt`. -/
def Obligations.ResetAndSetBit : Prop :=
  ∀ (value : Bool) (b : Fin 8) (x : Target) (s : State),
    encode (if value then Forms.setAt b x else Forms.resAt b x) =
      [0xCB#8, BitVec.ofNat 8 ((if value then 0xC0 else 0x80) + 8 * b.val + Forms.targetCode x)] ∧
    ∃ t w, exec (if value then Forms.setAt b x else Forms.resAt b x) s = .next t ∧
      (∀ k < 8, w.getLsbD k = if k = b.val then value else (s.target x).getLsbD k) ∧
      (match x with
        | .reg r => (∀ y, t.getReg y = if y = r then w else s.getReg y) ∧ t.cpu.cycles = 2 ∧ NoStore s t
        | .atHl => (∀ y, t.getReg y = s.getReg y) ∧ t.cpu.cycles = 4 ∧ Stored s t s.hl w) ∧
      t.cpu.f = s.cpu.f ∧ t.cpu.sp = s.cpu.sp ∧ t.cpu.pc = s.cpu.pc

/-- The condition of R550 on the flags before the instruction. -/
def conditionHolds (cc : Cond) (f : Flags) : Prop :=
  match cc with
  | .nz => f.z = false
  | .z => f.z = true
  | .nc => f.c = false
  | .c => f.c = true

/-- `JP n16`, `JP cc,n16` and `JP HL` (R551, R552, R553, R550): pc and the cycle count of the taken and the untaken jump;
nothing else. Covers `jpN16`, `jpHl` and the 4 constructors of `Forms.jpIf`. -/
def Obligations.Jump : Prop :=
  ∀ (cc : Cond) (a : Word) (s : State),
    encode (.jpN16 a) = Forms.withWord 0xC3 a ∧ encode .jpHl = [0xE9#8] ∧
    encode (Forms.jpIf a cc) = Forms.withWord (0xC2 + 8 * Forms.condCode cc) a ∧
    (∃ t, exec (.jpN16 a) s = .next t ∧ t.cpu.pc = a ∧ t.cpu.cycles = 4 ∧ (∀ x, t.getReg x = s.getReg x) ∧
      t.cpu.f = s.cpu.f ∧ t.cpu.sp = s.cpu.sp ∧ NoStore s t) ∧
    (∃ t, exec .jpHl s = .next t ∧ t.cpu.pc = s.hl ∧ t.cpu.cycles = 1 ∧ (∀ x, t.getReg x = s.getReg x) ∧
      t.cpu.f = s.cpu.f ∧ t.cpu.sp = s.cpu.sp ∧ NoStore s t) ∧
    (∃ t, exec (Forms.jpIf a cc) s = .next t ∧
      (conditionHolds cc s.cpu.f → t.cpu.pc = a ∧ t.cpu.cycles = 4) ∧
      (¬conditionHolds cc s.cpu.f → t.cpu.pc = s.cpu.pc ∧ t.cpu.cycles = 3) ∧ (∀ x, t.getReg x = s.getReg x) ∧
      t.cpu.f = s.cpu.f ∧ t.cpu.sp = s.cpu.sp ∧ NoStore s t)

/-- `JR e8` and `JR cc,e8` (R554, R555): pc plus the signed displacement modulo 2^16. Covers `jrE8` and the 4 constructors
of `Forms.jrIf`. -/
def Obligations.RelativeJump : Prop :=
  ∀ (cc : Cond) (e : Byte) (s : State),
    encode (.jrE8 e) = [0x18#8, e] ∧ encode (Forms.jrIf e cc) = [BitVec.ofNat 8 (0x20 + 8 * Forms.condCode cc), e] ∧
    (∃ t, exec (.jrE8 e) s = .next t ∧ (t.cpu.pc.toNat : Int) = ((s.cpu.pc.toNat : Int) + e.toInt) % 65536 ∧
      t.cpu.cycles = 3 ∧ (∀ x, t.getReg x = s.getReg x) ∧ t.cpu.f = s.cpu.f ∧ t.cpu.sp = s.cpu.sp ∧
      NoStore s t) ∧
    (∃ t, exec (Forms.jrIf e cc) s = .next t ∧
      (conditionHolds cc s.cpu.f →
        (t.cpu.pc.toNat : Int) = ((s.cpu.pc.toNat : Int) + e.toInt) % 65536 ∧ t.cpu.cycles = 3) ∧
      (¬conditionHolds cc s.cpu.f → t.cpu.pc = s.cpu.pc ∧ t.cpu.cycles = 2) ∧ (∀ x, t.getReg x = s.getReg x) ∧
      t.cpu.f = s.cpu.f ∧ t.cpu.sp = s.cpu.sp ∧ NoStore s t)

/-- `t` is `s` after pushing its pc and going to `a`: the high byte to SP - 1, then the low byte to SP - 2 (R14). -/
def pushedPc (s t : State) (a : Word) : Prop :=
  StoredTwo s t (s.cpu.sp - 1#16) (s.cpu.pc.extractLsb' 8 8) (s.cpu.sp - 2#16) (s.cpu.pc.extractLsb' 0 8) ∧
    t.cpu.sp = s.cpu.sp - 2#16 ∧ t.cpu.pc = a ∧ (∀ x, t.getReg x = s.getReg x) ∧ t.cpu.f = s.cpu.f

/-- `CALL n16`, `CALL cc,n16` and `RST t` (R556, R557, R561): the address of the next instruction is pushed and pc goes to
the target; an untaken call touches no stack. Covers `callN16`, the 4 constructors of `Forms.callIf` and the 8 of
`Forms.rst`. -/
def Obligations.Call : Prop :=
  ∀ (cc : Cond) (a : Word) (k : Fin 8) (s : State),
    encode (.callN16 a) = Forms.withWord 0xCD a ∧ encode (Forms.rst k) = [BitVec.ofNat 8 (0xC7 + 8 * k.val)] ∧
    encode (Forms.callIf a cc) = Forms.withWord (0xC4 + 8 * Forms.condCode cc) a ∧
    (∃ t, exec (.callN16 a) s = .next t ∧ pushedPc s t a ∧ t.cpu.cycles = 6) ∧
    (∃ t, exec (Forms.rst k) s = .next t ∧ pushedPc s t (BitVec.ofNat 16 (8 * k.val)) ∧ t.cpu.cycles = 4) ∧
    (∃ t, exec (Forms.callIf a cc) s = .next t ∧
      (conditionHolds cc s.cpu.f → pushedPc s t a ∧ t.cpu.cycles = 6) ∧
      (¬conditionHolds cc s.cpu.f → SameRegisters s t ∧ t.cpu.cycles = 3 ∧ NoStore s t))

/-- `t` is `s` after popping pc: the low byte from SP, the high byte from SP + 1 (R14); IME and the pending `EI` apart,
nothing else changes. -/
def poppedPc (s t : State) : Prop :=
  t.cpu.pc = hilo (memRead s (s.cpu.sp + 1#16)) (memRead s s.cpu.sp) ∧ t.cpu.sp = s.cpu.sp + 2#16 ∧
    (∀ x, t.getReg x = s.getReg x) ∧ t.cpu.f = s.cpu.f ∧ SameOutside s t ∧ (∀ a, memRead t a = memRead s a) ∧
    t.cpu.halted = s.cpu.halted ∧ t.cpu.stopped = s.cpu.stopped ∧ t.cpu.haltBug = s.cpu.haltBug ∧
    t.cpu.dmaStall = s.cpu.dmaStall ∧ t.cpu.fatal = s.cpu.fatal ∧ t.cpu.opAddr = s.cpu.opAddr

/-- `RET`, `RET cc` and `RETI` (R558, R559, R560): pc from the stack; `RETI` sets IME at once and drops a pending `EI`, the
others leave both. Covers `ret`, `reti` and the 4 constructors of `Forms.retIf`. -/
def Obligations.Return : Prop :=
  ∀ (cc : Cond) (s : State),
    encode .ret = [0xC9#8] ∧ encode .reti = [0xD9#8] ∧
    encode (Forms.retIf cc) = [BitVec.ofNat 8 (0xC0 + 8 * Forms.condCode cc)] ∧
    (∃ t, exec .ret s = .next t ∧ poppedPc s t ∧ t.cpu.ime = s.cpu.ime ∧ t.cpu.imeDelay = s.cpu.imeDelay ∧
      t.cpu.cycles = 4) ∧
    (∃ t, exec .reti s = .next t ∧ poppedPc s t ∧ t.cpu.ime = true ∧ t.cpu.imeDelay = 0 ∧ t.cpu.cycles = 4) ∧
    (∃ t, exec (Forms.retIf cc) s = .next t ∧
      (conditionHolds cc s.cpu.f →
        poppedPc s t ∧ t.cpu.ime = s.cpu.ime ∧ t.cpu.imeDelay = s.cpu.imeDelay ∧ t.cpu.cycles = 5) ∧
      (¬conditionHolds cc s.cpu.f → SameRegisters s t ∧ t.cpu.cycles = 2 ∧ NoStore s t))

/-- `t` is `s` but for the control fields the statement names and the cycle count. -/
def onlyControl (s t : State) (ime : Bool) (delay : Nat) (halted bug : Bool) : Prop :=
  t = { s with
        cpu := { s.cpu with ime := ime, imeDelay := delay, halted := halted, haltBug := bug, cycles := 1 } }

/-- `NOP`, `EI` and `DI` (R580, R585, R586): `NOP` changes only the cycle count; `EI` makes its effect pending when IME is
0 and none is; `DI` clears IME and a pending `EI` at once. Covers `nop`, `ei` and `di`. -/
def Obligations.NopEiDi : Prop :=
  ∀ (s : State),
    encode .nop = [0x00#8] ∧ encode .ei = [0xFB#8] ∧ encode .di = [0xF3#8] ∧
    (∃ t, exec .nop s = .next t ∧ onlyControl s t s.cpu.ime s.cpu.imeDelay s.cpu.halted s.cpu.haltBug) ∧
    (∃ t, exec .ei s = .next t ∧
      onlyControl s t s.cpu.ime (if s.cpu.ime = false ∧ s.cpu.imeDelay = 0 then 2 else s.cpu.imeDelay) s.cpu.halted
        s.cpu.haltBug) ∧
    (∃ t, exec .di s = .next t ∧ onlyControl s t false 0 s.cpu.halted s.cpu.haltBug)

/-- `HALT` (R581): with IME 0 and an enabled interrupt pending it arms the halt bug and does not halt; otherwise it halts.
Covers `halt`. -/
def Obligations.Halt : Prop :=
  ∀ (s : State),
    encode .halt = [0x76#8] ∧
    ∃ t, exec .halt s = .next t ∧
      (s.cpu.ime = false → (∃ k < 5, s.ie.getLsbD k = true ∧ s.intf.getLsbD k = true) →
        onlyControl s t s.cpu.ime s.cpu.imeDelay s.cpu.halted true) ∧
      (s.cpu.ime = true ∨ (∀ k < 5, s.ie.getLsbD k = false ∨ s.intf.getLsbD k = false) →
        onlyControl s t s.cpu.ime s.cpu.imeDelay true s.cpu.haltBug)

/-- `STOP` (R584, R832): the divider is reset, TIMA counts when the selected divider bit was 1 and the timer on (with the
overflow of R831), and the processor is stopped; the second byte is ignored, nothing else changes. Covers `stop`. -/
def Obligations.Stop : Prop :=
  ∀ (x : Byte) (s : State),
    encode (.stop x) = [0x10#8, x] ∧
    ∃ t, exec (.stop x) s = .next t ∧
      t =
        { s with
          cpu := { s.cpu with stopped := true, cycles := 1 }
          timer :=
            { s.timer with
              div := 0#16
              tima :=
                if s.timer.input then (if s.timer.tima = 0xFF#8 then s.timer.tma else s.timer.tima + 1#8)
                else s.timer.tima }
          intf := if s.timer.input ∧ s.timer.tima = 0xFF#8 then s.intf ||| 0x04#5 else s.intf }

/-- The eleven undefined opcodes (R340, R802): the fatal condition is recorded with the opcode's byte and address, no
M-cycle is reported, no other state changes; the step after it ends with the fault that says so. The recording as a
next state is the model's choice (log 1). Covers the 11 constructors of `Forms.undefinedRow`. -/
def Obligations.UndefinedOpcodes : Prop :=
  ∀ (op : Byte) (i : Instr) (s : State),
    (op, i) ∈ Forms.undefinedRow →
    encode i = [op] ∧
    ∃ t, exec i s = .next t ∧
      t = { s with cpu := { s.cpu with fatal := some { op := op, addr := s.cpu.opAddr }, cycles := 0 } } ∧
      finishIteration t.afterInstr = t ∧ step t = .fault (.undefinedOpcode op s.cpu.opAddr)

/-- A step of a run that is going on answers a next state whatever the state is (R803 lists no exception but the undefined
opcode). The spec says that the run ends on a fatal condition, a host stop or PROFILE_DURATION (R802, R881); how a step
shows it is the model's choice: the step of an undefined opcode itself answers a next state, and the step after it the
fault that names it (log 1), and a step of a run that has otherwise ended the fault that names why (log 2). -/
def Obligations.StepOutcomes : Prop :=
  ∀ (s : State),
    (s.running → ∃ t, step s = .next t) ∧
    (∀ u, s.cpu.fatal = some u → step s = .fault (.undefinedOpcode u.op u.addr)) ∧
    (∀ k, s.cpu.fatal = none → s.ended = some k → step s = .fault (.runEnded k))

/-- Taking an interrupt (R812, R813, R583): with IME set, no stall and an enabled request pending, the lowest such source
`k` is dispatched: pc (the address before it while the halt bug is armed) is pushed, high byte at SP - 1 first; IME and
request `k` are cleared; pc is 0x0040 + 8k; 5 M-cycles; the halt and stop states are left; registers, flags and a
pending `EI` stay. -/
def Obligations.InterruptDispatch : Prop :=
  ∀ (s : State),
    s.running → s.cpu.dmaStall = 0 → s.cpu.ime = true → (∃ k < 5, s.ie.getLsbD k = true ∧ s.intf.getLsbD k = true) →
    ∃ k t ret u, k < 5 ∧ s.ie.getLsbD k = true ∧ s.intf.getLsbD k = true ∧
      (∀ j < k, s.ie.getLsbD j = false ∨ s.intf.getLsbD j = false) ∧
      ret = (if s.cpu.haltBug then s.cpu.pc - 1#16 else s.cpu.pc) ∧
      u = memWrite (memWrite s (s.cpu.sp - 1#16) (ret.extractLsb' 8 8)) (s.cpu.sp - 2#16) (ret.extractLsb' 0 8) ∧
      cpuStep s = .next t ∧ step s = .next (finishIteration t) ∧
      t =
        { u with
          intf := u.intf &&& ~~~(1#5 <<< k)
          cpu :=
            { u.cpu with
              sp := s.cpu.sp - 2#16, pc := BitVec.ofNat 16 (0x40 + 8 * k), ime := false, halted := false,
              stopped := false, haltBug := false, cycles := 5 } }

/-- Idle steps and waking up (R801, R191, R582, R584): during the OAM DMA stall, and while halted or stopped with no
enabled request pending, the step only reports 1 M-cycle (and counts the stall down); it fetches and dispatches nothing.
Once an enabled request is pending the step is the one of the state with both left, which with IME 0 fetches the next
instruction (`StepRunsInstruction`) and with IME 1 dispatches (`InterruptDispatch`). -/
def Obligations.IdleSteps : Prop :=
  ∀ (s : State),
    s.running →
    (0 < s.cpu.dmaStall →
      step s =
        .next (finishIteration { s with cpu := { s.cpu with dmaStall := s.cpu.dmaStall - 1, cycles := 1 } })) ∧
    (s.cpu.dmaStall = 0 → (s.cpu.halted = true ∨ s.cpu.stopped = true) →
      (∀ k < 5, s.ie.getLsbD k = false ∨ s.intf.getLsbD k = false) →
      step s = .next (finishIteration { s with cpu := { s.cpu with cycles := 1 } })) ∧
    (s.cpu.dmaStall = 0 → (s.cpu.halted = true ∨ s.cpu.stopped = true) →
      (∃ k < 5, s.ie.getLsbD k = true ∧ s.intf.getLsbD k = true) →
      ∀ w, w = { s with cpu := { s.cpu with halted := false, stopped := false } } →
        step s = step w ∧ (s.cpu.ime = false → w.fetches))

/-- The halt bug (R583): while it is armed a fetched one-byte instruction runs with pc left on its own byte, and a longer
one takes its first operand byte from its own opcode's address; the fetch disarms it. -/
def Obligations.HaltBug : Prop :=
  ∀ (s : State),
    s.fetches → s.cpu.haltBug = true →
    ∃ i, s.fetched = i ∧ i = decode3 (memRead s s.cpu.pc) (memRead s s.cpu.pc) (memRead s (s.cpu.pc + 1#16)) ∧
      s.afterFetch.cpu.pc.toNat = (s.cpu.pc.toNat + (encode i).length - 1) % 65536 ∧
      s.afterFetch.cpu.haltBug = false ∧
      (∃ t, exec i s.afterFetch = .next t ∧ cpuStep s = .next t.afterInstr)

/-- `EI`'s latency (R585, R800): the step that runs `EI` with IME 0 and nothing pending leaves IME 0 with the effect due
at the end of the next instruction; that next instruction, unless it is `DI` or undefined, ends with IME 1. -/
def Obligations.EiLatency : Prop :=
  (∀ (s : State), s.fetches → memRead s s.cpu.pc = 0xFB#8 → s.cpu.ime = false → s.cpu.imeDelay = 0 →
    ∃ t, cpuStep s = .next t ∧ t.cpu.ime = false ∧ t.cpu.imeDelay = 1) ∧
  (∀ (s t : State), s.fetches → s.cpu.imeDelay = 1 → memRead s s.cpu.pc ≠ 0xF3#8 → cpuStep s = .next t →
    t.cpu.fatal = none → t.cpu.ime = true ∧ t.cpu.imeDelay = 0)

/-- What the spec states of the state at reset, whatever the parameters and the draws (R70 to R90, R126, R130, R135 to R137,
R904 to R906): the processor, the I/O registers by their read values, the stored sound registers, the pixel pipeline, the
synthesizer with its frequency timers at the reloads of the reset periods, the idle serial port and the host's side. -/
def ResetValues (s : State) : Prop :=
  s.cpu.a = 0x01#8 ∧ s.cpu.f.toByte = 0xB0#8 ∧ s.bc = 0x0013#16 ∧ s.de = 0x00D8#16 ∧ s.hl = 0x014D#16 ∧
  s.cpu.sp = 0xFFFE#16 ∧ s.cpu.pc = 0x0100#16 ∧ s.cpu.ime = false ∧ s.cpu.imeDelay = 0 ∧
  s.cpu.halted = false ∧ s.cpu.stopped = false ∧ s.cpu.haltBug = false ∧ s.cpu.dmaStall = 0 ∧ s.cpu.fatal = none ∧
  ([0xFF00#16, 0xFF01#16, 0xFF02#16, 0xFF05#16, 0xFF06#16, 0xFF07#16, 0xFF0F#16, 0xFF26#16, 0xFF40#16, 0xFF41#16,
      0xFF42#16, 0xFF43#16, 0xFF44#16, 0xFF45#16, 0xFF46#16, 0xFF47#16, 0xFF4A#16, 0xFF4B#16, 0xFFFF#16].map
      (memRead s)) =
    [0xCF#8, 0x00#8, 0x7E#8, 0x00#8, 0x00#8, 0xF8#8, 0xE1#8, 0xF0#8, 0x91#8, 0x86#8, 0x00#8, 0x00#8, 0x00#8, 0x00#8,
      0xFF#8, 0xFC#8, 0x00#8, 0x00#8, 0x00#8] ∧
  s.apu.power = true ∧
  s.apu.regs =
    { nr10 := 0x80#8, nr11 := 0xBF#8, nr12 := 0xF3#8, nr13 := 0xFF#8, nr14 := 0xBF#8,
      nr21 := 0x3F#8, nr22 := 0x00#8, nr23 := 0xFF#8, nr24 := 0xBF#8,
      nr30 := 0x7F#8, nr31 := 0xFF#8, nr32 := 0x9F#8, nr33 := 0xFF#8, nr34 := 0xBF#8,
      nr41 := 0xFF#8, nr42 := 0x00#8, nr43 := 0x00#8, nr44 := 0xBF#8, nr50 := 0x77#8, nr51 := 0xF3#8 } ∧
  s.apu.fsCounter = 0 ∧ s.apu.fsStep = 0 ∧ s.apu.sampleT = 0 ∧ s.apu.samplesOut = [] ∧
  s.apu.ch1.on = false ∧ s.apu.ch1.length = 0 ∧ s.apu.ch1.volume = 0#4 ∧ s.apu.ch1.dutyPos = 0#3 ∧
  s.apu.ch1.freqTimer = (2048 - 0x7FF) * 4 ∧
  s.apu.ch2.on = false ∧ s.apu.ch2.length = 0 ∧ s.apu.ch2.volume = 0#4 ∧ s.apu.ch2.dutyPos = 0#3 ∧
  s.apu.ch2.freqTimer = (2048 - 0x7FF) * 4 ∧
  s.apu.ch3 = { on := false, length := 0, freqTimer := (2048 - 0x7FF) * 2, wavePos := 0#5 } ∧
  s.apu.ch4.on = false ∧ s.apu.ch4.length = 0 ∧ s.apu.ch4.volume = 0#4 ∧ s.apu.ch4.lfsr = 0x7FFF#15 ∧
  s.apu.ch4.freqTimer = 8 ∧
  s.ppu.dot = 0 ∧ s.ppu.mode = .oamScan ∧ s.ppu.mode3End = 80 + 172 ∧ s.ppu.coincidence = true ∧
  s.ppu.windowLine = 0#8 ∧ s.ppu.fb = List.replicate 144 (List.replicate 160 0#2) ∧ s.ppu.framesOut = [] ∧
  s.serial.bitsLeft = 0 ∧ s.serial.timer = 0 ∧ s.serial.out = [] ∧
  s.buttons = 0#8 ∧ s.buttonsPrev = 0#8 ∧ s.stopRequested = false

/-- The controller a cartridge of type `t` has at construction, RTC_INIT being `rtc` (R241, R906); of DH the bits that R260
stores. -/
def controllerAtReset (t : CartType) (rtc : ClockRegs) (c : Controller) : Prop :=
  match t.variant with
  | .none => c = .none
  | .a => c = .a { ramEnable := false, bank1 := 1#5, bank2 := 0#2, mode := false }
  | .b => c = .b { ramEnable := false, romBank := 1#4 }
  | .c =>
    ∃ k, c = .c { ramEnable := false, romBank := 1#7, sel := 0#4, latchPrev := 0xFF#8, clock := k } ∧
      (t.clock = false → k = none) ∧
      (t.clock = true → ∀ g, g = { rtc with dh := rtc.dh &&& 0xC1#8 } → k = some { live := g, latched := g, sub := 0 })
  | .d => c = .d { ramEnable := false, romBank := 1#9, ramBank := 0#4, rumble := t.rumble }

/-- The state at reset where the spec states it (`ResetValues`; R241, R900 to R906): of `State.reset`, and of the state a
startup gives from any image it accepts, where the divider is DIV_INIT and the controller is `controllerAtReset`. One
clause, that 0xFF04 reads 0xAB, holds of the default of DIV_INIT alone, which the model chose for `State.reset` (R11, R75;
log 5); the other values the model chose (log 4, 7 to 10) are not part of the statement. -/
def Obligations.ResetState : Prop :=
  ResetValues State.reset ∧ memRead State.reset 0xFF04#16 = 0xAB#8 ∧
  ∀ (u : Setup) (image : List Byte) (dump : Option (List Byte)) (t : CartType) (s : State) (warned : Bool),
    cartType (imageByte image 0x147) = some t → powerOn u (some image) dump = .ok (s, warned) →
      ResetValues s ∧ s.timer.div = u.divInit ∧ s.params = u.params ∧ controllerAtReset t u.rtcInit s.cart.ctrl

/-- Every invariant of the machine holds at reset. -/
def Obligations.InvariantAtReset : Prop := Inv State.reset

/-- Every step keeps every memory array in canonical form and within its size, the image and the external RAM included
(R91, R100, R240), from any state. -/
def Obligations.StepKeepsMemory : Prop :=
  ∀ (s t : State), step s = .next t → MemoryInv s → MemoryInv t

/-- Every step keeps the processor's control invariant (R54, R190, R583, R585): `ime_delay` in 0..2 and 0 while IME is 1,
the stall in 0..160, the halt bug armed only in a processor that runs, never halted and stopped at once. -/
def Obligations.StepKeepsControl : Prop :=
  ∀ (s t : State), step s = .next t → CpuInv s → CpuInv t

/-- Every step keeps the pixel pipeline's invariant (R127, R601 to R603, R611, R615): the ranges of LY, dot and mode 3's
end; the mode R602 gives LY and dot; LY, dot and mode 0 while the LCD is off; the coincidence flag equal to LY = LYC. -/
def Obligations.StepKeepsPipeline : Prop :=
  ∀ (s t : State), step s = .next t → PpuInv s.ppu → PpuInv t.ppu

/-- Every step keeps the synthesizer's invariant (R128, R704, R710, R711, R736): the ranges of its counters, a running
channel's DAC on and length above 0, and everything off while the power is off. -/
def Obligations.StepKeepsSound : Prop :=
  ∀ (s t : State), step s = .next t → ApuInv s.apu → ApuInv t.apu

/-- Every step keeps the serial port's and the cartridge's invariants (R126, R845, R846, R224, R260, R264). That a transfer
in progress has the internal clock (`SerialInv.busy`) rests on the model's reading that a write to SC with the external
clock drops a running transfer (log 24, DEDUCED): R845 says only that none progresses then. -/
def Obligations.StepKeepsPorts : Prop :=
  ∀ (s t : State), step s = .next t → SerialInv s.serial → CartInv s.cart → SerialInv t.serial ∧ CartInv t.cart

/-- No step changes the image, the header's facts, the parameters or what only the host writes (R100, R153, R880); the
T-cycle count never falls, and grows by 4 per M-cycle reported (R860) unless the step recorded a fatal condition. -/
def Obligations.StepKeepsImage : Prop :=
  ∀ (s t : State), step s = .next t →
    SameFixed s t ∧ (t.cpu.fatal = none → t.tCycles = s.tCycles + 4 * t.cpu.cycles) ∧
      (t.cpu.fatal ≠ none → t.tCycles = s.tCycles)

/-- TIMA from `m` to `n` with the request `irq`: it counts exactly when the input (the enable bit and the divider bit
TAC selects) falls, and at 0xFF reloads from TMA with a request (R830, R831). -/
def countsOnFall (m n : Timer) (irq : Bool) : Prop :=
  (n.tma = m.tma) ∧
    (if m.input = true ∧ n.input = false then
      (if m.tima = 0xFF#8 then n.tima = m.tma ∧ irq = true else n.tima = m.tima + 1#8 ∧ irq = false)
    else n.tima = m.tima ∧ irq = false)

/-- The timer (R830 to R833): its input; a T-cycle counts the divider up by one; a write of any value to DIV clears it;
a write to TAC stores three bits; in each of the three TIMA counts on the falling edge only, and the request is IF bit
2. -/
def Obligations.TimerEdges : Prop :=
  ∀ (s : State) (v : Byte),
    (s.timer.input =
      (s.timer.tac.getLsbD 2 &&
        s.timer.div.getLsbD
          (match s.timer.tac.getLsbD 1, s.timer.tac.getLsbD 0 with
            | false, false => 9
            | false, true => 3
            | true, false => 5
            | true, true => 7))) ∧
    (∃ n irq, s.timer.tick = (n, irq) ∧ n.div = s.timer.div + 1#16 ∧ n.tac = s.timer.tac ∧
      countsOnFall s.timer n irq) ∧
    (∃ n irq, memWrite s 0xFF04#16 v = { s with timer := n, intf := if irq then s.intf ||| 0x04#5 else s.intf } ∧
      n.div = 0#16 ∧ n.tac = s.timer.tac ∧ countsOnFall s.timer n irq) ∧
    (∃ n irq, memWrite s 0xFF07#16 v = { s with timer := n, intf := if irq then s.intf ||| 0x04#5 else s.intf } ∧
      n.div = s.timer.div ∧ n.tac.toNat = v.toNat % 8 ∧ countsOnFall s.timer n irq)

/-- `n` T-cycles of the pixel pipeline over VRAM and OAM that do not change. -/
def pipelineTicks (q : Params) (vram oam : Mem) : Nat → Ppu → Ppu
  | 0, p => p
  | n + 1, p => pipelineTicks q vram oam n (p.tick q vram oam).1

/-- T-cycles into the frame. -/
def framePosition (p : Ppu) : Nat := p.ly.toNat * 456 + p.dot

/-- Frame timing with the LCD on (R601, R604, R605, R606, R615, R635), whatever MODE3_LEN is: `n` T-cycles move the
position in the frame by `n` modulo 70224, and one frame is published for every passage of line 144's first dot; one
T-cycle requests IF bit 0 there alone, and IF bit 1 exactly on an enabled mode entry or a new line equal to LYC. -/
def Obligations.FrameTiming : Prop :=
  ∀ (q : Params) (vram oam : Mem) (p : Ppu) (n : Nat),
    PpuInv p → p.lcdOn = true →
    framePosition (pipelineTicks q vram oam n p) = (framePosition p + n) % 70224 ∧
    (pipelineTicks q vram oam n p).framesOut.length + (framePosition p + 4560) / 70224 =
      p.framesOut.length + (framePosition p + n + 4560) / 70224 ∧
    (∃ p' r, p.tick q vram oam = (p', r) ∧
      r.getLsbD 0 = decide (framePosition p' = 144 * 456) ∧
      r.getLsbD 1 =
        ((p.statSel.getLsbD 2 && decide (p'.ly.toNat < 144 ∧ p'.dot = 0)) ||
          (p.statSel.getLsbD 0 && decide (p'.ly.toNat < 144 ∧ p'.dot = p.mode3End)) ||
          (p.statSel.getLsbD 1 && decide (framePosition p' = 144 * 456)) ||
          (p.statSel.getLsbD 3 && decide (p'.dot = 0 ∧ p'.ly = p.lyc))) ∧
      r.toNat < 4)

/-- LCDC, STAT and LYC (R607, R610, R611, R615, R616): what a write does at each change of LCDC bit 7 and otherwise; with
the LCD off a T-cycle does nothing. -/
def Obligations.LcdRegisters : Prop :=
  ∀ (s : State) (v : Byte),
    (s.ppu.lcdOn = true → v.getLsbD 7 = false →
      memWrite s 0xFF40#16 v =
        { s with
          ppu :=
            { s.ppu with lcdc := v, ly := 0#8, dot := 0, mode := .hblank, coincidence := s.ppu.lyc == 0#8 } }) ∧
    (s.ppu.lcdOn = false → v.getLsbD 7 = true →
      memWrite s 0xFF40#16 v =
        { s with
          ppu := { s.ppu with lcdc := v, ly := 0#8, dot := 0, mode := .oamScan, coincidence := s.ppu.lyc == 0#8 }
          intf :=
            if s.ppu.lyc = 0#8 ∧ s.ppu.coincidence = false ∧ s.ppu.statSel.getLsbD 3 = true then s.intf ||| 0x02#5
            else s.intf }) ∧
    (s.ppu.lcdOn = v.getLsbD 7 → memWrite s 0xFF40#16 v = { s with ppu := { s.ppu with lcdc := v } }) ∧
    memWrite s 0xFF45#16 v =
      { s with
        ppu := { s.ppu with lyc := v, coincidence := s.ppu.ly == v }
        intf :=
          if s.ppu.ly = v ∧ s.ppu.coincidence = false ∧ s.ppu.statSel.getLsbD 3 = true ∧ s.ppu.lcdOn = true then
            s.intf ||| 0x02#5
          else s.intf } ∧
    memWrite s 0xFF41#16 v = { s with ppu := { s.ppu with statSel := v.extractLsb' 3 4 } } ∧
    (memRead s 0xFF41#16).toNat =
      128 + 8 * s.ppu.statSel.toNat + 4 * bit s.ppu.coincidence +
        (match s.ppu.mode with | .hblank => 0 | .vblank => 1 | .oamScan => 2 | .transfer => 3) ∧
    (s.ppu.lcdOn = false → s.ppu.tick s.params s.vram s.oam = (s.ppu, 0#5))

/-- OAM DMA (R190, R166): a write of `v` to 0xFF46 stores `v`, fills OAM with the 160 bytes the unblocked view shows from
0x100 * v up, starts a stall of 160 M-cycles, and changes nothing else. -/
def Obligations.OamDma : Prop :=
  ∀ (s : State) (v : Byte),
    ∃ m,
      memWrite s 0xFF46#16 v =
        { s with ppu := { s.ppu with dma := v }, oam := m, cpu := { s.cpu with dmaStall := 160 } } ∧
      (MemoryInv s →
        ∀ i < 160, m.read i = rawRead { s with ppu := { s.ppu with dma := v } } (BitVec.ofNat 16 (256 * v.toNat + i))) ∧
      (∀ i, 160 ≤ i → m.read i = s.oam.read i)

/-- The address map (R71, R83, R91, R92, R153, R154, R157, R158, R159, R162, R163): the echo, VRAM and OAM while blocked,
the unusable block, the I/O addresses without a register, LY, IE, the image that no write changes; what each register of
the timer, the serial port, the pixel pipeline and IF reads as, what a write to each plain one stores, and wave RAM. That
0xFF15 and 0xFF1F have no register and read SENTINEL is the model's reading (log 11, DEDUCED): R90 gives them the mask
0xFF, and the two differ for a SENTINEL other than the default. -/
def Obligations.BusRegions : Prop :=
  ∀ (s : State) (a : Word) (v : Byte),
    (0xE000 ≤ a.toNat → a.toNat < 0xFE00 →
      memRead s a = memRead s (a - 0x2000#16) ∧ memWrite s a v = memWrite s (a - 0x2000#16) v) ∧
    (s.ppu.lcdOn = true → s.ppu.mode = .transfer →
      (0x8000 ≤ a.toNat ∧ a.toNat < 0xA000) ∨ (0xFE00 ≤ a.toNat ∧ a.toNat < 0xFEA0) →
      memRead s a = s.params.sentinel ∧ memWrite s a v = s) ∧
    (0xFEA0 ≤ a.toNat → a.toNat < 0xFF00 → memRead s a = s.params.sentinel ∧ memWrite s a v = s) ∧
    (a.toNat = 0xFF03 ∨ (0xFF08 ≤ a.toNat ∧ a.toNat ≤ 0xFF0E) ∨ a.toNat = 0xFF15 ∨ a.toNat = 0xFF1F ∨
        (0xFF27 ≤ a.toNat ∧ a.toNat ≤ 0xFF2F) ∨ (0xFF4C ≤ a.toNat ∧ a.toNat ≤ 0xFF7F) →
      memRead s a = s.params.sentinel ∧ memWrite s a v = s) ∧
    memWrite s 0xFF44#16 v = s ∧
    memRead (memWrite s 0xFFFF#16 v) 0xFFFF#16 = v ∧
    (memWrite s a v).cart.rom = s.cart.rom ∧
    [0xFF01#16, 0xFF05#16, 0xFF06#16, 0xFF40#16, 0xFF42#16, 0xFF43#16, 0xFF44#16, 0xFF45#16, 0xFF46#16, 0xFF47#16,
        0xFF48#16, 0xFF49#16, 0xFF4A#16, 0xFF4B#16].map (memRead s) =
      [s.serial.sb, s.timer.tima, s.timer.tma, s.ppu.lcdc, s.ppu.scy, s.ppu.scx, s.ppu.ly, s.ppu.lyc, s.ppu.dma,
        s.ppu.bgp, s.ppu.obp0, s.ppu.obp1, s.ppu.wy, s.ppu.wx] ∧
    (memRead s 0xFF02#16).toNat = 126 + 128 * bit s.serial.start + bit s.serial.internal ∧
    (memRead s 0xFF04#16).toNat = s.timer.div.toNat / 256 ∧
    (memRead s 0xFF07#16).toNat = 248 + s.timer.tac.toNat ∧
    (memRead s 0xFF0F#16).toNat = 224 + s.intf.toNat ∧
    memWrite s 0xFF01#16 v = { s with serial := { s.serial with sb := v } } ∧
    memWrite s 0xFF05#16 v = { s with timer := { s.timer with tima := v } } ∧
    memWrite s 0xFF06#16 v = { s with timer := { s.timer with tma := v } } ∧
    memWrite s 0xFF0F#16 v = { s with intf := BitVec.ofNat 5 v.toNat } ∧
    memWrite s 0xFF42#16 v = { s with ppu := { s.ppu with scy := v } } ∧
    memWrite s 0xFF43#16 v = { s with ppu := { s.ppu with scx := v } } ∧
    memWrite s 0xFF47#16 v = { s with ppu := { s.ppu with bgp := v } } ∧
    memWrite s 0xFF48#16 v = { s with ppu := { s.ppu with obp0 := v } } ∧
    memWrite s 0xFF49#16 v = { s with ppu := { s.ppu with obp1 := v } } ∧
    memWrite s 0xFF4A#16 v = { s with ppu := { s.ppu with wy := v } } ∧
    memWrite s 0xFF4B#16 v = { s with ppu := { s.ppu with wx := v } } ∧
    (0xFF30 ≤ a.toNat → a.toNat < 0xFF40 →
      memWrite s a v = { s with apu := { s.apu with wave := s.apu.wave.write (a.toNat - 0xFF30) v } } ∧
        (MemoryInv s → memRead (memWrite s a v) a = v) ∧
        ∀ b, b ≠ a → memRead (memWrite s a v) b = memRead s b)

/-- The bank of R247, R253, R262 and R272 (R240 without a controller) for 0x0000-0x3FFF and for 0x4000-0x7FFF. -/
def mappedBank (model : Mbc1Model) (ctrl : Controller) (high : Bool) : Nat :=
  match ctrl, high with
  | .none, false => 0
  | .none, true => 1
  | .a r, false => if model = .dmg ∧ r.mode = true then 32 * r.bank2.toNat else 0
  | .a r, true =>
    (if model = .eitherOr ∧ r.mode = true then 0 else 32 * r.bank2.toNat) + max 1 r.bank1.toNat
  | .b _, false => 0
  | .b r, true => max 1 r.romBank.toNat
  | .c _, false => 0
  | .c r, true => max 1 r.romBank.toNat
  | .d _, false => 0
  | .d r, true => r.romBank.toNat

/-- The RAM-enable flag of variants A to D. -/
def ramEnabled (ctrl : Controller) : Bool :=
  match ctrl with
  | .none => true
  | .a r => r.ramEnable
  | .b r => r.ramEnable
  | .c r => r.ramEnable
  | .d r => r.ramEnable

/-- What a write of `v` to address `a` below 0x8000 makes of a controller, register by register (R240, R246, R251, R261,
R271). -/
def commanded (a : Nat) (v : Byte) (old new : Controller) : Prop :=
  match old with
  | .none => new = .none
  | .a r =>
    ∃ q, new = .a q ∧
      q.ramEnable = (if a < 0x2000 then decide (v.toNat % 16 = 0xA) else r.ramEnable) ∧
      q.bank1.toNat = (if 0x2000 ≤ a ∧ a < 0x4000 then v.toNat % 32 else r.bank1.toNat) ∧
      q.bank2.toNat = (if 0x4000 ≤ a ∧ a < 0x6000 then v.toNat % 4 else r.bank2.toNat) ∧
      q.mode = (if 0x6000 ≤ a then decide (v.toNat % 2 = 1) else r.mode)
  | .b r =>
    ∃ q, new = .b q ∧
      q.ramEnable =
        (if a < 0x4000 ∧ a / 256 % 2 = 0 then decide (v.toNat % 16 = 0xA) else r.ramEnable) ∧
      q.romBank.toNat = (if a < 0x4000 ∧ a / 256 % 2 = 1 then v.toNat % 16 else r.romBank.toNat)
  | .c r =>
    ∃ q, new = .c q ∧
      q.ramEnable = (if a < 0x2000 then decide (v.toNat % 16 = 0xA) else r.ramEnable) ∧
      q.romBank.toNat = (if 0x2000 ≤ a ∧ a < 0x4000 then v.toNat % 128 else r.romBank.toNat) ∧
      q.sel.toNat = (if 0x4000 ≤ a ∧ a < 0x6000 then v.toNat % 16 else r.sel.toNat) ∧
      q.latchPrev = (if 0x6000 ≤ a then v else r.latchPrev) ∧
      q.clock =
        (if 0x6000 ≤ a ∧ r.latchPrev = 0x00#8 ∧ v = 0x01#8 then r.clock.map fun k => { k with latched := k.live }
          else r.clock)
  | .d r =>
    ∃ q, new = .d q ∧
      q.ramEnable = (if a < 0x2000 then decide (v.toNat % 16 = 0xA) else r.ramEnable) ∧
      q.romBank.toNat =
        (if 0x2000 ≤ a ∧ a < 0x3000 then r.romBank.toNat / 256 * 256 + v.toNat
          else if 0x3000 ≤ a ∧ a < 0x4000 then v.toNat % 2 * 256 + r.romBank.toNat % 256
          else r.romBank.toNat) ∧
      q.ramBank.toNat =
        (if 0x4000 ≤ a ∧ a < 0x6000 then (if r.rumble then v.toNat % 8 else v.toNat % 16) else r.ramBank.toNat) ∧
      q.rumble = r.rumble

/-- The bank of external RAM that 0xA000-0xBFFF shows (R240, R248, R263, R273); none for variant B, and none while
variant C's selector is above 3. -/
def mappedRam : Controller → Option Nat
  | .none => some 0
  | .a r => some (if r.mode then r.bank2.toNat else 0)
  | .b _ => none
  | .c r => if r.sel.toNat < 4 then some r.sel.toNat else none
  | .d r => some r.ramBank.toNat

/-- A read at `a` gives the clock register variant C's selector names from the latched ones, and a write stores `v`,
masked to its bits, in the live one; writing the seconds restarts the second (R263). -/
def clockAccess (s : State) (a : Word) (v : Byte) (r : Mbc3) (k : Clock) : Prop :=
  (memRead s a).toNat =
      (if r.sel = 8#4 then k.latched.s.toNat
        else if r.sel = 9#4 then k.latched.m.toNat
        else if r.sel = 10#4 then k.latched.hr.toNat
        else if r.sel = 11#4 then k.latched.dl.toNat
        else k.latched.dh.toNat) ∧
    ∃ q, memWrite s a v = { s with cart := { s.cart with ctrl := .c { r with clock := some q } } } ∧
      q.latched = k.latched ∧ q.sub = (if r.sel = 8#4 then 0 else k.sub) ∧
      q.live.s.toNat = (if r.sel = 8#4 then v.toNat % 64 else k.live.s.toNat) ∧
      q.live.m.toNat = (if r.sel = 9#4 then v.toNat % 64 else k.live.m.toNat) ∧
      q.live.hr.toNat = (if r.sel = 10#4 then v.toNat % 32 else k.live.hr.toNat) ∧
      q.live.dl = (if r.sel = 11#4 then v else k.live.dl) ∧
      q.live.dh = (if r.sel = 12#4 then v &&& 0xC1#8 else k.live.dh)

/-- Every controller (R230, R231, R240, R246 to R248, R251 to R253, R261 to R263, R271 to R273): the byte of the image an
address shows; what a write below 0x8000 makes of the controller's registers, and that it changes nothing else; external
RAM read and written at the mapped bank while it is enabled and present; SENTINEL and no effect while it is disabled,
absent, or variant C selects nothing; variant B's nibbles; variant C's clock registers. -/
def Obligations.CartridgeBanks : Prop :=
  ∀ (s : State) (a : Word) (v : Byte),
    (a.toNat < 0x8000 →
      memRead s a =
        s.cart.rom.read
          (mappedBank s.params.mbc1Model s.cart.ctrl (decide (0x4000 ≤ a.toNat)) % s.cart.nrom * 0x4000 +
            a.toNat % 0x4000)) ∧
    (a.toNat < 0x8000 →
      ∃ c, memWrite s a v = { s with cart := { s.cart with ctrl := c } } ∧ commanded a.toNat v s.cart.ctrl c) ∧
    (0xA000 ≤ a.toNat → a.toNat < 0xC000 →
      (ramEnabled s.cart.ctrl = false ∨ ((mappedRam s.cart.ctrl).isSome = true ∧ s.cart.ramSize = 0) →
        memRead s a = s.params.sentinel ∧ memWrite s a v = s) ∧
      (∀ b, ramEnabled s.cart.ctrl = true → mappedRam s.cart.ctrl = some b → s.cart.ramSize ≠ 0 →
        ∀ i, i = (b % s.cart.nram * 0x2000 + (a.toNat - 0xA000)) % s.cart.ramSize →
          memRead s a = s.cart.eram.read i ∧
            memWrite s a v = { s with cart := { s.cart with eram := s.cart.eram.write i v } }) ∧
      (∀ r, s.cart.ctrl = .b r → r.ramEnable = true →
        ∀ i, i = (a.toNat - 0xA000) % 512 →
          memRead s a = 0xF0#8 ||| s.cart.eram.read i ∧
            memWrite s a v = { s with cart := { s.cart with eram := s.cart.eram.write i (v &&& 0x0F#8) } }) ∧
      (∀ r, s.cart.ctrl = .c r → r.ramEnable = true → 4 ≤ r.sel.toNat →
        (r.clock = none ∨ r.sel.toNat < 8 ∨ 12 < r.sel.toNat →
          memRead s a = s.params.sentinel ∧ memWrite s a v = s) ∧
        ∀ k, r.clock = some k → 8 ≤ r.sel.toNat → r.sel.toNat ≤ 12 → clockAccess s a v r k))

/-- `n` T-cycles of the cartridge clock. -/
def clockTicks : Nat → Clock → Clock
  | 0, k => k
  | n + 1, k => clockTicks n k.tick

/-- Seconds since day 0 that clock registers show. -/
def clockSeconds (k : ClockRegs) : Nat :=
  (((256 * bit (k.dh.getLsbD 0) + k.dl.toNat) * 24 + k.hr.toNat) * 60 + k.m.toNat) * 60 + k.s.toNat

/-- The real-time clock (R264): while DH bit 6 is 0, `n` T-cycles move the place in the second by `n` modulo 4194304 and
elapse the whole seconds; a second moves registers that are in range by one, the day counter past 511 to 0 with the
carry bit set; while DH bit 6 is 1 nothing moves. -/
def Obligations.ClockAdvance : Prop :=
  ∀ (k : Clock) (g : ClockRegs) (n : Nat),
    (k.live.dh.getLsbD 6 = false → k.sub < 4194304 →
      (clockTicks n k).sub = (k.sub + n) % 4194304 ∧
      (clockTicks n k).live = Nat.repeat ClockRegs.tickSecond ((k.sub + n) / 4194304) k.live ∧
      (clockTicks n k).latched = k.latched) ∧
    (g.s.toNat < 60 → g.m.toNat < 60 → g.hr.toNat < 24 →
      clockSeconds g.tickSecond = (clockSeconds g + 1) % (512 * 86400) ∧
      g.tickSecond.dh.getLsbD 7 = (g.dh.getLsbD 7 || decide (clockSeconds g + 1 = 512 * 86400)) ∧
      g.tickSecond.dh.getLsbD 6 = g.dh.getLsbD 6) ∧
    (k.live.dh.getLsbD 6 = true → k.tick = k)

/-- The sound registers by address (R90). -/
def soundAddresses : List (Word × SoundReg) :=
  [(0xFF10#16, .nr10), (0xFF11#16, .nr11), (0xFF12#16, .nr12), (0xFF13#16, .nr13), (0xFF14#16, .nr14),
    (0xFF16#16, .nr21), (0xFF17#16, .nr22), (0xFF18#16, .nr23), (0xFF19#16, .nr24),
    (0xFF1A#16, .nr30), (0xFF1B#16, .nr31), (0xFF1C#16, .nr32), (0xFF1D#16, .nr33), (0xFF1E#16, .nr34),
    (0xFF20#16, .nr41), (0xFF21#16, .nr42), (0xFF22#16, .nr43), (0xFF23#16, .nr44),
    (0xFF24#16, .nr50), (0xFF25#16, .nr51), (0xFF26#16, .nr52)]

/-- The mask column of R90 for NR10 to NR51, the bits that read 1. -/
def soundMasks : List (SoundReg × Byte) :=
  [(.nr10, 0x80#8), (.nr11, 0x3F#8), (.nr12, 0x00#8), (.nr13, 0xFF#8), (.nr14, 0xBF#8),
    (.nr21, 0x3F#8), (.nr22, 0x00#8), (.nr23, 0xFF#8), (.nr24, 0xBF#8),
    (.nr30, 0x7F#8), (.nr31, 0xFF#8), (.nr32, 0x9F#8), (.nr33, 0xFF#8), (.nr34, 0xBF#8),
    (.nr41, 0xFF#8), (.nr42, 0x00#8), (.nr43, 0x00#8), (.nr44, 0xBF#8), (.nr50, 0x00#8), (.nr51, 0x00#8)]

/-- The synthesizer with the register bytes that a write leaves and nothing else changed. -/
def soundStored (p : Apu) (r : SoundReg) (v : Byte) : Apu := { p with regs := (p.writeReg r v).regs }

/-- The result of `sweep_calc()` on the period `n` (R713). -/
def sweptPeriod (nr10 : Byte) (n : Nat) : Nat :=
  if nr10.getLsbD 3 then n - n / 2 ^ (nr10.toNat % 8) else n + n / 2 ^ (nr10.toNat % 8)

/-- Sound registers (R90, R163, R704, R705, R711, R713, R714, R735, R736): the address of each; reads, with R90's masks;
power off clears NR10 to NR51, the lengths and the sequencer and turns the channels off, and while it lasts a write to them
does nothing; power on does nothing else; with the power on a write is stored, a length field loads its counter, a DAC
turned off turns its channel off, a trigger starts the channel exactly when its DAC is on (for channel 1 with a sweep step,
when besides the start sweep check does not pass 2047) and sets its counters and channel 1's sweep unit, and nothing else
changes. -/
def Obligations.SoundControl : Prop :=
  ∀ (s : State) (p : Apu) (r : SoundReg) (v : Byte),
    (∀ x ∈ soundAddresses,
      memRead s x.1 = s.apu.readReg x.2 ∧ memWrite s x.1 v = { s with apu := s.apu.writeReg x.2 v }) ∧
    (∀ x ∈ soundMasks, p.readReg x.1 = p.regs.get x.1 ||| x.2) ∧
    (p.readReg .nr52).toNat =
      128 * bit p.power + 112 + 8 * bit p.ch4.on + 4 * bit p.ch3.on + 2 * bit p.ch2.on + bit p.ch1.on ∧
    (p.power = true → v.getLsbD 7 = false →
      ∀ q, q = p.writeReg .nr52 v → q.power = false ∧ (∀ x, q.regs.get x = 0#8) ∧ q.ch1.on = false ∧
        q.ch2.on = false ∧ q.ch3.on = false ∧ q.ch4.on = false ∧ q.ch1.length = 0 ∧ q.ch2.length = 0 ∧
        q.ch3.length = 0 ∧ q.ch4.length = 0 ∧ q.fsCounter = 0 ∧ q.fsStep = 0 ∧ q.wave = p.wave) ∧
    (p.power = false → v.getLsbD 7 = true → p.writeReg .nr52 v = { p with power := true }) ∧
    (p.power = v.getLsbD 7 → p.writeReg .nr52 v = p) ∧
    (p.power = false → r ≠ .nr52 → p.writeReg r v = p) ∧
    (p.power = true →
      (r ≠ .nr52 → ∀ x, (p.writeReg r v).regs.get x = if x = r then v else p.regs.get x) ∧
      (r ∈ [SoundReg.nr10, .nr13, .nr23, .nr32, .nr33, .nr43, .nr50, .nr51] → p.writeReg r v = soundStored p r v) ∧
      (r ∈ [SoundReg.nr14, .nr24, .nr34, .nr44] → v.toNat < 128 → p.writeReg r v = soundStored p r v) ∧
      p.writeReg .nr11 v = { soundStored p .nr11 v with ch1 := { p.ch1 with length := 64 - v.toNat % 64 } } ∧
      p.writeReg .nr21 v = { soundStored p .nr21 v with ch2 := { p.ch2 with length := 64 - v.toNat % 64 } } ∧
      p.writeReg .nr31 v = { soundStored p .nr31 v with ch3 := { p.ch3 with length := 256 - v.toNat } } ∧
      p.writeReg .nr41 v = { soundStored p .nr41 v with ch4 := { p.ch4 with length := 64 - v.toNat % 64 } } ∧
      p.writeReg .nr12 v =
        { soundStored p .nr12 v with ch1 := { p.ch1 with on := p.ch1.on && decide (8 ≤ v.toNat) } } ∧
      p.writeReg .nr22 v =
        { soundStored p .nr22 v with ch2 := { p.ch2 with on := p.ch2.on && decide (8 ≤ v.toNat) } } ∧
      p.writeReg .nr30 v = { soundStored p .nr30 v with ch3 := { p.ch3 with on := p.ch3.on && v.getLsbD 7 } } ∧
      p.writeReg .nr42 v =
        { soundStored p .nr42 v with ch4 := { p.ch4 with on := p.ch4.on && decide (8 ≤ v.toNat) } } ∧
      (128 ≤ v.toNat →
        (∀ n, n = v.toNat % 8 * 256 + p.regs.nr13.toNat →
          p.writeReg .nr14 v =
            { soundStored p .nr14 v with
              ch1 :=
                { p.ch1 with
                  on :=
                    decide (8 ≤ p.regs.nr12.toNat) &&
                      decide (p.regs.nr10.toNat % 8 = 0 ∨ sweptPeriod p.regs.nr10 n ≤ 2047)
                  length := if p.ch1.length = 0 then 64 else p.ch1.length
                  freqTimer := (2048 - n) * 4
                  volume := BitVec.ofNat 4 (p.regs.nr12.toNat / 16)
                  envTimer := BitVec.ofNat 3 p.regs.nr12.toNat }
              sweep :=
                { timer := if p.regs.nr10.toNat / 16 % 8 = 0 then 8 else p.regs.nr10.toNat / 16 % 8
                  enabled := decide (p.regs.nr10.toNat / 16 % 8 ≠ 0 ∨ p.regs.nr10.toNat % 8 ≠ 0)
                  shadow := BitVec.ofNat 11 n } }) ∧
        p.writeReg .nr24 v =
          { soundStored p .nr24 v with
            ch2 :=
              { p.ch2 with
                on := decide (8 ≤ p.regs.nr22.toNat)
                length := if p.ch2.length = 0 then 64 else p.ch2.length
                freqTimer := (2048 - (v.toNat % 8 * 256 + p.regs.nr23.toNat)) * 4
                volume := BitVec.ofNat 4 (p.regs.nr22.toNat / 16)
                envTimer := BitVec.ofNat 3 p.regs.nr22.toNat } } ∧
        p.writeReg .nr34 v =
          { soundStored p .nr34 v with
            ch3 :=
              { on := p.regs.nr30.getLsbD 7
                length := if p.ch3.length = 0 then 256 else p.ch3.length
                freqTimer := (2048 - (v.toNat % 8 * 256 + p.regs.nr33.toNat)) * 2
                wavePos := 0#5 } } ∧
        p.writeReg .nr44 v =
          { soundStored p .nr44 v with
            ch4 :=
              { on := decide (8 ≤ p.regs.nr42.toNat)
                length := if p.ch4.length = 0 then 64 else p.ch4.length
                freqTimer :=
                  (if p.regs.nr43.toNat % 8 = 0 then 8 else 16 * (p.regs.nr43.toNat % 8)) *
                    2 ^ (p.regs.nr43.toNat / 16)
                volume := BitVec.ofNat 4 (p.regs.nr42.toNat / 16)
                envTimer := BitVec.ofNat 3 p.regs.nr42.toNat
                lfsr := 0x7FFF#15 } }))

/-- `n` T-cycles of the serial port, and whether any of them requests the interrupt. -/
def serialTicks : Nat → Serial → Serial × Bool
  | 0, p => (p, false)
  | n + 1, p => ((serialTicks n p.tick.1).1, p.tick.2 || (serialTicks n p.tick.1).2)

/-- The unconnected serial port (R163, R845, R846): SC writes, at 0xFF02; a transfer takes 4096 T-cycles, shifts a 1 in
every 512, and requests the interrupt only at its end, where SC bit 7 clears. With the external clock no transfer
progresses and SC bit 7 stays 1; that one that was running is then dropped is the model's reading (log 24, DEDUCED). -/
def Obligations.SerialTransfer : Prop :=
  ∀ (s : State) (p : Serial) (v : Byte) (n : Nat),
    memWrite s 0xFF02#16 v = { s with serial := s.serial.writeSc v } ∧
    (v.getLsbD 7 = true → v.getLsbD 0 = true →
      p.writeSc v =
        { p with start := true, internal := true, out := p.out ++ [p.sb], bitsLeft := 8, timer := 512 }) ∧
    (v.getLsbD 7 = false → p.writeSc v = { p with start := false, internal := v.getLsbD 0, bitsLeft := 0 }) ∧
    (v.getLsbD 7 = true → v.getLsbD 0 = false →
      p.writeSc v = { p with start := true, internal := false, bitsLeft := 0 }) ∧
    (p.bitsLeft = 0 → p.tick = (p, false)) ∧
    (p.bitsLeft = 8 → p.timer = 512 →
      (n < 4096 →
        (serialTicks n p).2 = false ∧ (serialTicks n p).1.start = p.start ∧
          (serialTicks n p).1.bitsLeft = 8 - n / 512 ∧
          (serialTicks n p).1.sb.toNat = (p.sb.toNat * 2 ^ (n / 512) + (2 ^ (n / 512) - 1)) % 256) ∧
      (n = 4096 → serialTicks n p = ({ p with sb := 0xFF#8, start := false, bitsLeft := 0, timer := 0 }, true)))

/-- The buttons (R72, R850, R851): a P1 write keeps bits 5-4; a bit of P1's low half reads 0 exactly when a selected row
has that button pressed; a new mask requests IF bit 4 exactly when it presses a button. Saving and restoring (R880, R882):
a restore replaces what a save hands out; a machine with the same parameters whose run is where the saved one was becomes
that machine, so that everything after it is the same; a step's own state may be restored after it. What the saved state
leaves to the machine, the parameters and the end of the run, is the model's reading of D43 (log 27, DEDUCED). -/
def Obligations.ButtonsAndSavedStates : Prop :=
  ∀ (s t : State) (m v : Byte),
    (t.restore s.save).save = s.save ∧
    (t.params = s.params → t.ended = s.ended → t.restore s.save = s) ∧
    (step s = .next t → t.mayRestore s.save = true ∧ t.restore s.save = { s with ended := t.ended }) ∧
    memWrite s 0xFF00#16 v = { s with p1 := v.extractLsb' 4 2 } ∧
    (∀ k < 4,
      (memRead s 0xFF00#16).getLsbD k =
        !((!s.p1.getLsbD 0 && s.buttons.getLsbD k) || (!s.p1.getLsbD 1 && s.buttons.getLsbD (k + 4)))) ∧
    (memRead s 0xFF00#16).getLsbD 4 = s.p1.getLsbD 0 ∧ (memRead s 0xFF00#16).getLsbD 5 = s.p1.getLsbD 1 ∧
    (memRead s 0xFF00#16).getLsbD 6 = true ∧ (memRead s 0xFF00#16).getLsbD 7 = true ∧
    s.setButtons m =
      { s with
        buttonsPrev := s.buttons
        buttons := m
        intf :=
          if ∃ k < 8, m.getLsbD k = true ∧ s.buttons.getLsbD k = false then s.intf ||| 0x10#5 else s.intf }
end

