-- ==== Sys2Proof/Laws/Memory.lean ====
section
/-! SUPPORT. Sys2Proof/Laws/Memory.lean: reading after writing, and the canonical form kept by every operation. -/

namespace Sys2Proof.Machine

open Sys2Proof.Config

theorem Mem.wfFrom_mono {b c : Nat} {m : Mem} (h : b ≤ c) (w : Mem.wfFrom c m = true) : Mem.wfFrom b m = true := by
  cases m with
  | nil => rfl
  | cons x m =>
    simp only [Mem.wfFrom, Bool.and_eq_true, decide_eq_true_eq] at w ⊢
    exact ⟨⟨by omega, w.1.2⟩, w.2⟩

/-- Below the first listed index a canonical array reads as the unlisted byte. -/
theorem Mem.read_below {b i : Nat} {m : Mem} (w : Mem.wfFrom b m = true) (h : i < b) : m.read i = unlistedByte := by
  induction m generalizing b with
  | nil => rfl
  | cons x m ih =>
    simp only [Mem.wfFrom, Bool.and_eq_true, decide_eq_true_eq] at w
    rw [Mem.read, if_neg (by omega)]
    exact ih w.2 (by omega)

theorem Mem.wfFrom_write {b i : Nat} {m : Mem} (v : Byte) (w : Mem.wfFrom b m = true) (h : b ≤ i) :
    Mem.wfFrom b (m.write i v) = true := by
  induction m generalizing b with
  | nil =>
    by_cases hv : v = unlistedByte
    · simp [Mem.write, hv, Mem.wfFrom]
    · simp [Mem.write, hv, Mem.wfFrom, h]
  | cons x m ih =>
    simp only [Mem.wfFrom, Bool.and_eq_true, decide_eq_true_eq] at w
    unfold Mem.write
    split
    · split <;> simp_all [Mem.wfFrom]
    · split
      · split
        · exact Mem.wfFrom_mono (by omega) w.2
        · simp_all [Mem.wfFrom]
      · simp only [Mem.wfFrom, Bool.and_eq_true, decide_eq_true_eq]
        exact ⟨w.1, ih w.2 (by omega)⟩

/-- A write keeps the canonical form. -/
theorem Mem.wf_write {m : Mem} (i : Nat) (v : Byte) (w : m.wf = true) : (m.write i v).wf = true :=
  Mem.wfFrom_write v w (Nat.zero_le i)

theorem Mem.below_write {n i : Nat} {m : Mem} (v : Byte) (w : m.below n = true) (h : i < n) :
    (m.write i v).below n = true := by
  induction m with
  | nil =>
    unfold Mem.write
    split <;> simp [Mem.below, h]
  | cons x m ih =>
    simp only [Mem.below, List.all_cons, Bool.and_eq_true, decide_eq_true_eq] at w ih ⊢
    unfold Mem.write
    split
    · split <;> simp [w, h, -List.all_eq_true]
    · split
      · split <;> simp [w, h, -List.all_eq_true]
      · simp only [List.all_cons, Bool.and_eq_true, decide_eq_true_eq]
        exact ⟨w.1, ih w.2⟩

/-- A write inside the array keeps it canonical and within its size. -/
theorem Mem.fits_write {n i : Nat} {m : Mem} (v : Byte) (w : m.fits n = true) (h : i < n) :
    (m.write i v).fits n = true := by
  simp only [Mem.fits, Bool.and_eq_true] at w ⊢
  exact ⟨Mem.wf_write i v w.1, Mem.below_write v w.2 h⟩

theorem Mem.read_writeFrom {b i : Nat} {m : Mem} (v : Byte) (w : Mem.wfFrom b m = true) : (m.write i v).read i = v := by
  induction m generalizing b with
  | nil =>
    by_cases hv : v = unlistedByte <;> simp [Mem.write, hv, Mem.read]
  | cons x m ih =>
    have w' := w
    simp only [Mem.wfFrom, Bool.and_eq_true, decide_eq_true_eq] at w
    unfold Mem.write
    split
    · split
      · next hi hv =>
        rw [hv]
        exact Mem.read_below (b := x.1) (by simp [Mem.wfFrom, w.1.2, w.2]) hi
      · simp [Mem.read]
    · split
      · split
        · next hi hv => rw [hv]; exact Mem.read_below w.2 (by omega)
        · simp [Mem.read]
      · next h1 h2 => rw [Mem.read, if_neg h2]; exact ih w.2

/-- What was written is read back. -/
theorem Mem.read_write_same {m : Mem} (i : Nat) (v : Byte) (w : m.wf = true) : (m.write i v).read i = v :=
  Mem.read_writeFrom v w

/-- A write leaves every other index alone; this needs no canonical form. -/
theorem Mem.read_write_other {m : Mem} {i j : Nat} (v : Byte) (h : j ≠ i) : (m.write i v).read j = m.read j := by
  induction m with
  | nil =>
    unfold Mem.write
    split
    · rfl
    · simp [Mem.read, h]
  | cons x m ih =>
    unfold Mem.write
    split
    · split
      · rfl
      · simp [Mem.read, h]
    · split
      · next h1 h2 =>
        subst h2
        split <;> simp [Mem.read, h]
      · simp only [Mem.read, ih]

theorem Mem.wfFrom_ofBytes (i : Nat) (vs : List Byte) : Mem.wfFrom i (Mem.ofBytesFrom i vs) = true := by
  induction vs generalizing i with
  | nil => rfl
  | cons v vs ih =>
    unfold Mem.ofBytesFrom
    split
    · exact Mem.wfFrom_mono (Nat.le_succ i) (ih (i + 1))
    · next hv => simp [Mem.wfFrom, hv, ih (i + 1)]

/-- An array built from bytes is canonical. -/
theorem Mem.wf_ofBytes (vs : List Byte) : (Mem.ofBytesFrom 0 vs).wf = true := Mem.wfFrom_ofBytes 0 vs

theorem Mem.wf_writeAll {m : Mem} (i : Nat) (vs : List Byte) (w : m.wf = true) : (m.writeAll i vs).wf = true := by
  induction vs generalizing m i with
  | nil => exact w
  | cons v vs ih => exact ih (i + 1) (Mem.wf_write i v w)

end Sys2Proof.Machine
end

