-- ==== Sys2Proof/Laws/State.lean ====
section
/-! SUPPORT. Sys2Proof/Laws/State.lean: each field after each update of the state. -/

namespace Sys2Proof.Machine

@[simp] theorem State.setPc_cpu_a (s : State) (w : Word) : (s.setPc w).cpu.a = s.cpu.a := rfl
@[simp] theorem State.setPc_cpu_f (s : State) (w : Word) : (s.setPc w).cpu.f = s.cpu.f := rfl
@[simp] theorem State.setPc_cpu_b (s : State) (w : Word) : (s.setPc w).cpu.b = s.cpu.b := rfl
@[simp] theorem State.setPc_cpu_c (s : State) (w : Word) : (s.setPc w).cpu.c = s.cpu.c := rfl
@[simp] theorem State.setPc_cpu_d (s : State) (w : Word) : (s.setPc w).cpu.d = s.cpu.d := rfl
@[simp] theorem State.setPc_cpu_e (s : State) (w : Word) : (s.setPc w).cpu.e = s.cpu.e := rfl
@[simp] theorem State.setPc_cpu_h (s : State) (w : Word) : (s.setPc w).cpu.h = s.cpu.h := rfl
@[simp] theorem State.setPc_cpu_l (s : State) (w : Word) : (s.setPc w).cpu.l = s.cpu.l := rfl
@[simp] theorem State.setPc_cpu_sp (s : State) (w : Word) : (s.setPc w).cpu.sp = s.cpu.sp := rfl
@[simp] theorem State.setPc_cpu_pc (s : State) (w : Word) : (s.setPc w).cpu.pc = w := rfl
@[simp] theorem State.setPc_cpu_ime (s : State) (w : Word) : (s.setPc w).cpu.ime = s.cpu.ime := rfl
@[simp] theorem State.setPc_cpu_imeDelay (s : State) (w : Word) : (s.setPc w).cpu.imeDelay = s.cpu.imeDelay := rfl
@[simp] theorem State.setPc_cpu_halted (s : State) (w : Word) : (s.setPc w).cpu.halted = s.cpu.halted := rfl
@[simp] theorem State.setPc_cpu_stopped (s : State) (w : Word) : (s.setPc w).cpu.stopped = s.cpu.stopped := rfl
@[simp] theorem State.setPc_cpu_haltBug (s : State) (w : Word) : (s.setPc w).cpu.haltBug = s.cpu.haltBug := rfl
@[simp] theorem State.setPc_cpu_dmaStall (s : State) (w : Word) : (s.setPc w).cpu.dmaStall = s.cpu.dmaStall := rfl
@[simp] theorem State.setPc_cpu_fatal (s : State) (w : Word) : (s.setPc w).cpu.fatal = s.cpu.fatal := rfl
@[simp] theorem State.setPc_cpu_cycles (s : State) (w : Word) : (s.setPc w).cpu.cycles = s.cpu.cycles := rfl
@[simp] theorem State.setPc_cpu_opAddr (s : State) (w : Word) : (s.setPc w).cpu.opAddr = s.cpu.opAddr := rfl
@[simp] theorem State.setPc_ie (s : State) (w : Word) : (s.setPc w).ie = s.ie := rfl
@[simp] theorem State.setPc_intf (s : State) (w : Word) : (s.setPc w).intf = s.intf := rfl
@[simp] theorem State.setPc_p1 (s : State) (w : Word) : (s.setPc w).p1 = s.p1 := rfl
@[simp] theorem State.setPc_timer (s : State) (w : Word) : (s.setPc w).timer = s.timer := rfl
@[simp] theorem State.setPc_serial (s : State) (w : Word) : (s.setPc w).serial = s.serial := rfl
@[simp] theorem State.setPc_ppu (s : State) (w : Word) : (s.setPc w).ppu = s.ppu := rfl
@[simp] theorem State.setPc_apu (s : State) (w : Word) : (s.setPc w).apu = s.apu := rfl
@[simp] theorem State.setPc_cart (s : State) (w : Word) : (s.setPc w).cart = s.cart := rfl
@[simp] theorem State.setPc_vram (s : State) (w : Word) : (s.setPc w).vram = s.vram := rfl
@[simp] theorem State.setPc_wram (s : State) (w : Word) : (s.setPc w).wram = s.wram := rfl
@[simp] theorem State.setPc_oam (s : State) (w : Word) : (s.setPc w).oam = s.oam := rfl
@[simp] theorem State.setPc_hram (s : State) (w : Word) : (s.setPc w).hram = s.hram := rfl
@[simp] theorem State.setPc_buttons (s : State) (w : Word) : (s.setPc w).buttons = s.buttons := rfl
@[simp] theorem State.setPc_buttonsPrev (s : State) (w : Word) : (s.setPc w).buttonsPrev = s.buttonsPrev := rfl
@[simp] theorem State.setPc_stopRequested (s : State) (w : Word) : (s.setPc w).stopRequested = s.stopRequested := rfl
@[simp] theorem State.setPc_ended (s : State) (w : Word) : (s.setPc w).ended = s.ended := rfl
@[simp] theorem State.setPc_tCycles (s : State) (w : Word) : (s.setPc w).tCycles = s.tCycles := rfl
@[simp] theorem State.setPc_params (s : State) (w : Word) : (s.setPc w).params = s.params := rfl

@[simp] theorem State.setSp_cpu_a (s : State) (w : Word) : (s.setSp w).cpu.a = s.cpu.a := rfl
@[simp] theorem State.setSp_cpu_f (s : State) (w : Word) : (s.setSp w).cpu.f = s.cpu.f := rfl
@[simp] theorem State.setSp_cpu_b (s : State) (w : Word) : (s.setSp w).cpu.b = s.cpu.b := rfl
@[simp] theorem State.setSp_cpu_c (s : State) (w : Word) : (s.setSp w).cpu.c = s.cpu.c := rfl
@[simp] theorem State.setSp_cpu_d (s : State) (w : Word) : (s.setSp w).cpu.d = s.cpu.d := rfl
@[simp] theorem State.setSp_cpu_e (s : State) (w : Word) : (s.setSp w).cpu.e = s.cpu.e := rfl
@[simp] theorem State.setSp_cpu_h (s : State) (w : Word) : (s.setSp w).cpu.h = s.cpu.h := rfl
@[simp] theorem State.setSp_cpu_l (s : State) (w : Word) : (s.setSp w).cpu.l = s.cpu.l := rfl
@[simp] theorem State.setSp_cpu_sp (s : State) (w : Word) : (s.setSp w).cpu.sp = w := rfl
@[simp] theorem State.setSp_cpu_pc (s : State) (w : Word) : (s.setSp w).cpu.pc = s.cpu.pc := rfl
@[simp] theorem State.setSp_cpu_ime (s : State) (w : Word) : (s.setSp w).cpu.ime = s.cpu.ime := rfl
@[simp] theorem State.setSp_cpu_imeDelay (s : State) (w : Word) : (s.setSp w).cpu.imeDelay = s.cpu.imeDelay := rfl
@[simp] theorem State.setSp_cpu_halted (s : State) (w : Word) : (s.setSp w).cpu.halted = s.cpu.halted := rfl
@[simp] theorem State.setSp_cpu_stopped (s : State) (w : Word) : (s.setSp w).cpu.stopped = s.cpu.stopped := rfl
@[simp] theorem State.setSp_cpu_haltBug (s : State) (w : Word) : (s.setSp w).cpu.haltBug = s.cpu.haltBug := rfl
@[simp] theorem State.setSp_cpu_dmaStall (s : State) (w : Word) : (s.setSp w).cpu.dmaStall = s.cpu.dmaStall := rfl
@[simp] theorem State.setSp_cpu_fatal (s : State) (w : Word) : (s.setSp w).cpu.fatal = s.cpu.fatal := rfl
@[simp] theorem State.setSp_cpu_cycles (s : State) (w : Word) : (s.setSp w).cpu.cycles = s.cpu.cycles := rfl
@[simp] theorem State.setSp_cpu_opAddr (s : State) (w : Word) : (s.setSp w).cpu.opAddr = s.cpu.opAddr := rfl
@[simp] theorem State.setSp_ie (s : State) (w : Word) : (s.setSp w).ie = s.ie := rfl
@[simp] theorem State.setSp_intf (s : State) (w : Word) : (s.setSp w).intf = s.intf := rfl
@[simp] theorem State.setSp_p1 (s : State) (w : Word) : (s.setSp w).p1 = s.p1 := rfl
@[simp] theorem State.setSp_timer (s : State) (w : Word) : (s.setSp w).timer = s.timer := rfl
@[simp] theorem State.setSp_serial (s : State) (w : Word) : (s.setSp w).serial = s.serial := rfl
@[simp] theorem State.setSp_ppu (s : State) (w : Word) : (s.setSp w).ppu = s.ppu := rfl
@[simp] theorem State.setSp_apu (s : State) (w : Word) : (s.setSp w).apu = s.apu := rfl
@[simp] theorem State.setSp_cart (s : State) (w : Word) : (s.setSp w).cart = s.cart := rfl
@[simp] theorem State.setSp_vram (s : State) (w : Word) : (s.setSp w).vram = s.vram := rfl
@[simp] theorem State.setSp_wram (s : State) (w : Word) : (s.setSp w).wram = s.wram := rfl
@[simp] theorem State.setSp_oam (s : State) (w : Word) : (s.setSp w).oam = s.oam := rfl
@[simp] theorem State.setSp_hram (s : State) (w : Word) : (s.setSp w).hram = s.hram := rfl
@[simp] theorem State.setSp_buttons (s : State) (w : Word) : (s.setSp w).buttons = s.buttons := rfl
@[simp] theorem State.setSp_buttonsPrev (s : State) (w : Word) : (s.setSp w).buttonsPrev = s.buttonsPrev := rfl
@[simp] theorem State.setSp_stopRequested (s : State) (w : Word) : (s.setSp w).stopRequested = s.stopRequested := rfl
@[simp] theorem State.setSp_ended (s : State) (w : Word) : (s.setSp w).ended = s.ended := rfl
@[simp] theorem State.setSp_tCycles (s : State) (w : Word) : (s.setSp w).tCycles = s.tCycles := rfl
@[simp] theorem State.setSp_params (s : State) (w : Word) : (s.setSp w).params = s.params := rfl

@[simp] theorem State.setHl_cpu_a (s : State) (w : Word) : (s.setHl w).cpu.a = s.cpu.a := rfl
@[simp] theorem State.setHl_cpu_f (s : State) (w : Word) : (s.setHl w).cpu.f = s.cpu.f := rfl
@[simp] theorem State.setHl_cpu_b (s : State) (w : Word) : (s.setHl w).cpu.b = s.cpu.b := rfl
@[simp] theorem State.setHl_cpu_c (s : State) (w : Word) : (s.setHl w).cpu.c = s.cpu.c := rfl
@[simp] theorem State.setHl_cpu_d (s : State) (w : Word) : (s.setHl w).cpu.d = s.cpu.d := rfl
@[simp] theorem State.setHl_cpu_e (s : State) (w : Word) : (s.setHl w).cpu.e = s.cpu.e := rfl
@[simp] theorem State.setHl_cpu_h (s : State) (w : Word) : (s.setHl w).cpu.h = hi w := rfl
@[simp] theorem State.setHl_cpu_l (s : State) (w : Word) : (s.setHl w).cpu.l = lo w := rfl
@[simp] theorem State.setHl_cpu_sp (s : State) (w : Word) : (s.setHl w).cpu.sp = s.cpu.sp := rfl
@[simp] theorem State.setHl_cpu_pc (s : State) (w : Word) : (s.setHl w).cpu.pc = s.cpu.pc := rfl
@[simp] theorem State.setHl_cpu_ime (s : State) (w : Word) : (s.setHl w).cpu.ime = s.cpu.ime := rfl
@[simp] theorem State.setHl_cpu_imeDelay (s : State) (w : Word) : (s.setHl w).cpu.imeDelay = s.cpu.imeDelay := rfl
@[simp] theorem State.setHl_cpu_halted (s : State) (w : Word) : (s.setHl w).cpu.halted = s.cpu.halted := rfl
@[simp] theorem State.setHl_cpu_stopped (s : State) (w : Word) : (s.setHl w).cpu.stopped = s.cpu.stopped := rfl
@[simp] theorem State.setHl_cpu_haltBug (s : State) (w : Word) : (s.setHl w).cpu.haltBug = s.cpu.haltBug := rfl
@[simp] theorem State.setHl_cpu_dmaStall (s : State) (w : Word) : (s.setHl w).cpu.dmaStall = s.cpu.dmaStall := rfl
@[simp] theorem State.setHl_cpu_fatal (s : State) (w : Word) : (s.setHl w).cpu.fatal = s.cpu.fatal := rfl
@[simp] theorem State.setHl_cpu_cycles (s : State) (w : Word) : (s.setHl w).cpu.cycles = s.cpu.cycles := rfl
@[simp] theorem State.setHl_cpu_opAddr (s : State) (w : Word) : (s.setHl w).cpu.opAddr = s.cpu.opAddr := rfl
@[simp] theorem State.setHl_ie (s : State) (w : Word) : (s.setHl w).ie = s.ie := rfl
@[simp] theorem State.setHl_intf (s : State) (w : Word) : (s.setHl w).intf = s.intf := rfl
@[simp] theorem State.setHl_p1 (s : State) (w : Word) : (s.setHl w).p1 = s.p1 := rfl
@[simp] theorem State.setHl_timer (s : State) (w : Word) : (s.setHl w).timer = s.timer := rfl
@[simp] theorem State.setHl_serial (s : State) (w : Word) : (s.setHl w).serial = s.serial := rfl
@[simp] theorem State.setHl_ppu (s : State) (w : Word) : (s.setHl w).ppu = s.ppu := rfl
@[simp] theorem State.setHl_apu (s : State) (w : Word) : (s.setHl w).apu = s.apu := rfl
@[simp] theorem State.setHl_cart (s : State) (w : Word) : (s.setHl w).cart = s.cart := rfl
@[simp] theorem State.setHl_vram (s : State) (w : Word) : (s.setHl w).vram = s.vram := rfl
@[simp] theorem State.setHl_wram (s : State) (w : Word) : (s.setHl w).wram = s.wram := rfl
@[simp] theorem State.setHl_oam (s : State) (w : Word) : (s.setHl w).oam = s.oam := rfl
@[simp] theorem State.setHl_hram (s : State) (w : Word) : (s.setHl w).hram = s.hram := rfl
@[simp] theorem State.setHl_buttons (s : State) (w : Word) : (s.setHl w).buttons = s.buttons := rfl
@[simp] theorem State.setHl_buttonsPrev (s : State) (w : Word) : (s.setHl w).buttonsPrev = s.buttonsPrev := rfl
@[simp] theorem State.setHl_stopRequested (s : State) (w : Word) : (s.setHl w).stopRequested = s.stopRequested := rfl
@[simp] theorem State.setHl_ended (s : State) (w : Word) : (s.setHl w).ended = s.ended := rfl
@[simp] theorem State.setHl_tCycles (s : State) (w : Word) : (s.setHl w).tCycles = s.tCycles := rfl
@[simp] theorem State.setHl_params (s : State) (w : Word) : (s.setHl w).params = s.params := rfl

@[simp] theorem State.setFlags_cpu_a (s : State) (g : Flags) : (s.setFlags g).cpu.a = s.cpu.a := rfl
@[simp] theorem State.setFlags_cpu_f (s : State) (g : Flags) : (s.setFlags g).cpu.f = g := rfl
@[simp] theorem State.setFlags_cpu_b (s : State) (g : Flags) : (s.setFlags g).cpu.b = s.cpu.b := rfl
@[simp] theorem State.setFlags_cpu_c (s : State) (g : Flags) : (s.setFlags g).cpu.c = s.cpu.c := rfl
@[simp] theorem State.setFlags_cpu_d (s : State) (g : Flags) : (s.setFlags g).cpu.d = s.cpu.d := rfl
@[simp] theorem State.setFlags_cpu_e (s : State) (g : Flags) : (s.setFlags g).cpu.e = s.cpu.e := rfl
@[simp] theorem State.setFlags_cpu_h (s : State) (g : Flags) : (s.setFlags g).cpu.h = s.cpu.h := rfl
@[simp] theorem State.setFlags_cpu_l (s : State) (g : Flags) : (s.setFlags g).cpu.l = s.cpu.l := rfl
@[simp] theorem State.setFlags_cpu_sp (s : State) (g : Flags) : (s.setFlags g).cpu.sp = s.cpu.sp := rfl
@[simp] theorem State.setFlags_cpu_pc (s : State) (g : Flags) : (s.setFlags g).cpu.pc = s.cpu.pc := rfl
@[simp] theorem State.setFlags_cpu_ime (s : State) (g : Flags) : (s.setFlags g).cpu.ime = s.cpu.ime := rfl
@[simp] theorem State.setFlags_cpu_imeDelay (s : State) (g : Flags) : (s.setFlags g).cpu.imeDelay = s.cpu.imeDelay := rfl
@[simp] theorem State.setFlags_cpu_halted (s : State) (g : Flags) : (s.setFlags g).cpu.halted = s.cpu.halted := rfl
@[simp] theorem State.setFlags_cpu_stopped (s : State) (g : Flags) : (s.setFlags g).cpu.stopped = s.cpu.stopped := rfl
@[simp] theorem State.setFlags_cpu_haltBug (s : State) (g : Flags) : (s.setFlags g).cpu.haltBug = s.cpu.haltBug := rfl
@[simp] theorem State.setFlags_cpu_dmaStall (s : State) (g : Flags) : (s.setFlags g).cpu.dmaStall = s.cpu.dmaStall := rfl
@[simp] theorem State.setFlags_cpu_fatal (s : State) (g : Flags) : (s.setFlags g).cpu.fatal = s.cpu.fatal := rfl
@[simp] theorem State.setFlags_cpu_cycles (s : State) (g : Flags) : (s.setFlags g).cpu.cycles = s.cpu.cycles := rfl
@[simp] theorem State.setFlags_cpu_opAddr (s : State) (g : Flags) : (s.setFlags g).cpu.opAddr = s.cpu.opAddr := rfl
@[simp] theorem State.setFlags_ie (s : State) (g : Flags) : (s.setFlags g).ie = s.ie := rfl
@[simp] theorem State.setFlags_intf (s : State) (g : Flags) : (s.setFlags g).intf = s.intf := rfl
@[simp] theorem State.setFlags_p1 (s : State) (g : Flags) : (s.setFlags g).p1 = s.p1 := rfl
@[simp] theorem State.setFlags_timer (s : State) (g : Flags) : (s.setFlags g).timer = s.timer := rfl
@[simp] theorem State.setFlags_serial (s : State) (g : Flags) : (s.setFlags g).serial = s.serial := rfl
@[simp] theorem State.setFlags_ppu (s : State) (g : Flags) : (s.setFlags g).ppu = s.ppu := rfl
@[simp] theorem State.setFlags_apu (s : State) (g : Flags) : (s.setFlags g).apu = s.apu := rfl
@[simp] theorem State.setFlags_cart (s : State) (g : Flags) : (s.setFlags g).cart = s.cart := rfl
@[simp] theorem State.setFlags_vram (s : State) (g : Flags) : (s.setFlags g).vram = s.vram := rfl
@[simp] theorem State.setFlags_wram (s : State) (g : Flags) : (s.setFlags g).wram = s.wram := rfl
@[simp] theorem State.setFlags_oam (s : State) (g : Flags) : (s.setFlags g).oam = s.oam := rfl
@[simp] theorem State.setFlags_hram (s : State) (g : Flags) : (s.setFlags g).hram = s.hram := rfl
@[simp] theorem State.setFlags_buttons (s : State) (g : Flags) : (s.setFlags g).buttons = s.buttons := rfl
@[simp] theorem State.setFlags_buttonsPrev (s : State) (g : Flags) : (s.setFlags g).buttonsPrev = s.buttonsPrev := rfl
@[simp] theorem State.setFlags_stopRequested (s : State) (g : Flags) : (s.setFlags g).stopRequested = s.stopRequested := rfl
@[simp] theorem State.setFlags_ended (s : State) (g : Flags) : (s.setFlags g).ended = s.ended := rfl
@[simp] theorem State.setFlags_tCycles (s : State) (g : Flags) : (s.setFlags g).tCycles = s.tCycles := rfl
@[simp] theorem State.setFlags_params (s : State) (g : Flags) : (s.setFlags g).params = s.params := rfl

@[simp] theorem State.wake_cpu_a (s : State) : (s.wake).cpu.a = s.cpu.a := rfl
@[simp] theorem State.wake_cpu_f (s : State) : (s.wake).cpu.f = s.cpu.f := rfl
@[simp] theorem State.wake_cpu_b (s : State) : (s.wake).cpu.b = s.cpu.b := rfl
@[simp] theorem State.wake_cpu_c (s : State) : (s.wake).cpu.c = s.cpu.c := rfl
@[simp] theorem State.wake_cpu_d (s : State) : (s.wake).cpu.d = s.cpu.d := rfl
@[simp] theorem State.wake_cpu_e (s : State) : (s.wake).cpu.e = s.cpu.e := rfl
@[simp] theorem State.wake_cpu_h (s : State) : (s.wake).cpu.h = s.cpu.h := rfl
@[simp] theorem State.wake_cpu_l (s : State) : (s.wake).cpu.l = s.cpu.l := rfl
@[simp] theorem State.wake_cpu_sp (s : State) : (s.wake).cpu.sp = s.cpu.sp := rfl
@[simp] theorem State.wake_cpu_pc (s : State) : (s.wake).cpu.pc = s.cpu.pc := rfl
@[simp] theorem State.wake_cpu_ime (s : State) : (s.wake).cpu.ime = s.cpu.ime := rfl
@[simp] theorem State.wake_cpu_imeDelay (s : State) : (s.wake).cpu.imeDelay = s.cpu.imeDelay := rfl
@[simp] theorem State.wake_cpu_halted (s : State) : (s.wake).cpu.halted = false := rfl
@[simp] theorem State.wake_cpu_stopped (s : State) : (s.wake).cpu.stopped = false := rfl
@[simp] theorem State.wake_cpu_haltBug (s : State) : (s.wake).cpu.haltBug = s.cpu.haltBug := rfl
@[simp] theorem State.wake_cpu_dmaStall (s : State) : (s.wake).cpu.dmaStall = s.cpu.dmaStall := rfl
@[simp] theorem State.wake_cpu_fatal (s : State) : (s.wake).cpu.fatal = s.cpu.fatal := rfl
@[simp] theorem State.wake_cpu_cycles (s : State) : (s.wake).cpu.cycles = s.cpu.cycles := rfl
@[simp] theorem State.wake_cpu_opAddr (s : State) : (s.wake).cpu.opAddr = s.cpu.opAddr := rfl
@[simp] theorem State.wake_ie (s : State) : (s.wake).ie = s.ie := rfl
@[simp] theorem State.wake_intf (s : State) : (s.wake).intf = s.intf := rfl
@[simp] theorem State.wake_p1 (s : State) : (s.wake).p1 = s.p1 := rfl
@[simp] theorem State.wake_timer (s : State) : (s.wake).timer = s.timer := rfl
@[simp] theorem State.wake_serial (s : State) : (s.wake).serial = s.serial := rfl
@[simp] theorem State.wake_ppu (s : State) : (s.wake).ppu = s.ppu := rfl
@[simp] theorem State.wake_apu (s : State) : (s.wake).apu = s.apu := rfl
@[simp] theorem State.wake_cart (s : State) : (s.wake).cart = s.cart := rfl
@[simp] theorem State.wake_vram (s : State) : (s.wake).vram = s.vram := rfl
@[simp] theorem State.wake_wram (s : State) : (s.wake).wram = s.wram := rfl
@[simp] theorem State.wake_oam (s : State) : (s.wake).oam = s.oam := rfl
@[simp] theorem State.wake_hram (s : State) : (s.wake).hram = s.hram := rfl
@[simp] theorem State.wake_buttons (s : State) : (s.wake).buttons = s.buttons := rfl
@[simp] theorem State.wake_buttonsPrev (s : State) : (s.wake).buttonsPrev = s.buttonsPrev := rfl
@[simp] theorem State.wake_stopRequested (s : State) : (s.wake).stopRequested = s.stopRequested := rfl
@[simp] theorem State.wake_ended (s : State) : (s.wake).ended = s.ended := rfl
@[simp] theorem State.wake_tCycles (s : State) : (s.wake).tCycles = s.tCycles := rfl
@[simp] theorem State.wake_params (s : State) : (s.wake).params = s.params := rfl

@[simp] theorem State.setReg_cpu_f (s : State) (r : Reg8) (v : Byte) : (s.setReg r v).cpu.f = s.cpu.f := by cases r <;> rfl
@[simp] theorem State.setReg_cpu_sp (s : State) (r : Reg8) (v : Byte) : (s.setReg r v).cpu.sp = s.cpu.sp := by cases r <;> rfl
@[simp] theorem State.setReg_cpu_pc (s : State) (r : Reg8) (v : Byte) : (s.setReg r v).cpu.pc = s.cpu.pc := by cases r <;> rfl
@[simp] theorem State.setReg_cpu_ime (s : State) (r : Reg8) (v : Byte) : (s.setReg r v).cpu.ime = s.cpu.ime := by cases r <;> rfl
@[simp] theorem State.setReg_cpu_imeDelay (s : State) (r : Reg8) (v : Byte) : (s.setReg r v).cpu.imeDelay = s.cpu.imeDelay := by cases r <;> rfl
@[simp] theorem State.setReg_cpu_halted (s : State) (r : Reg8) (v : Byte) : (s.setReg r v).cpu.halted = s.cpu.halted := by cases r <;> rfl
@[simp] theorem State.setReg_cpu_stopped (s : State) (r : Reg8) (v : Byte) : (s.setReg r v).cpu.stopped = s.cpu.stopped := by cases r <;> rfl
@[simp] theorem State.setReg_cpu_haltBug (s : State) (r : Reg8) (v : Byte) : (s.setReg r v).cpu.haltBug = s.cpu.haltBug := by cases r <;> rfl
@[simp] theorem State.setReg_cpu_dmaStall (s : State) (r : Reg8) (v : Byte) : (s.setReg r v).cpu.dmaStall = s.cpu.dmaStall := by cases r <;> rfl
@[simp] theorem State.setReg_cpu_fatal (s : State) (r : Reg8) (v : Byte) : (s.setReg r v).cpu.fatal = s.cpu.fatal := by cases r <;> rfl
@[simp] theorem State.setReg_cpu_cycles (s : State) (r : Reg8) (v : Byte) : (s.setReg r v).cpu.cycles = s.cpu.cycles := by cases r <;> rfl
@[simp] theorem State.setReg_cpu_opAddr (s : State) (r : Reg8) (v : Byte) : (s.setReg r v).cpu.opAddr = s.cpu.opAddr := by cases r <;> rfl
@[simp] theorem State.setReg_ie (s : State) (r : Reg8) (v : Byte) : (s.setReg r v).ie = s.ie := by cases r <;> rfl
@[simp] theorem State.setReg_intf (s : State) (r : Reg8) (v : Byte) : (s.setReg r v).intf = s.intf := by cases r <;> rfl
@[simp] theorem State.setReg_p1 (s : State) (r : Reg8) (v : Byte) : (s.setReg r v).p1 = s.p1 := by cases r <;> rfl
@[simp] theorem State.setReg_timer (s : State) (r : Reg8) (v : Byte) : (s.setReg r v).timer = s.timer := by cases r <;> rfl
@[simp] theorem State.setReg_serial (s : State) (r : Reg8) (v : Byte) : (s.setReg r v).serial = s.serial := by cases r <;> rfl
@[simp] theorem State.setReg_ppu (s : State) (r : Reg8) (v : Byte) : (s.setReg r v).ppu = s.ppu := by cases r <;> rfl
@[simp] theorem State.setReg_apu (s : State) (r : Reg8) (v : Byte) : (s.setReg r v).apu = s.apu := by cases r <;> rfl
@[simp] theorem State.setReg_cart (s : State) (r : Reg8) (v : Byte) : (s.setReg r v).cart = s.cart := by cases r <;> rfl
@[simp] theorem State.setReg_vram (s : State) (r : Reg8) (v : Byte) : (s.setReg r v).vram = s.vram := by cases r <;> rfl
@[simp] theorem State.setReg_wram (s : State) (r : Reg8) (v : Byte) : (s.setReg r v).wram = s.wram := by cases r <;> rfl
@[simp] theorem State.setReg_oam (s : State) (r : Reg8) (v : Byte) : (s.setReg r v).oam = s.oam := by cases r <;> rfl
@[simp] theorem State.setReg_hram (s : State) (r : Reg8) (v : Byte) : (s.setReg r v).hram = s.hram := by cases r <;> rfl
@[simp] theorem State.setReg_buttons (s : State) (r : Reg8) (v : Byte) : (s.setReg r v).buttons = s.buttons := by cases r <;> rfl
@[simp] theorem State.setReg_buttonsPrev (s : State) (r : Reg8) (v : Byte) : (s.setReg r v).buttonsPrev = s.buttonsPrev := by cases r <;> rfl
@[simp] theorem State.setReg_stopRequested (s : State) (r : Reg8) (v : Byte) : (s.setReg r v).stopRequested = s.stopRequested := by cases r <;> rfl
@[simp] theorem State.setReg_ended (s : State) (r : Reg8) (v : Byte) : (s.setReg r v).ended = s.ended := by cases r <;> rfl
@[simp] theorem State.setReg_tCycles (s : State) (r : Reg8) (v : Byte) : (s.setReg r v).tCycles = s.tCycles := by cases r <;> rfl
@[simp] theorem State.setReg_params (s : State) (r : Reg8) (v : Byte) : (s.setReg r v).params = s.params := by cases r <;> rfl

@[simp] theorem State.setPair_cpu_a (s : State) (r : Pair) (w : Word) : (s.setPair r w).cpu.a = s.cpu.a := by cases r <;> rfl
@[simp] theorem State.setPair_cpu_f (s : State) (r : Pair) (w : Word) : (s.setPair r w).cpu.f = s.cpu.f := by cases r <;> rfl
@[simp] theorem State.setPair_cpu_pc (s : State) (r : Pair) (w : Word) : (s.setPair r w).cpu.pc = s.cpu.pc := by cases r <;> rfl
@[simp] theorem State.setPair_cpu_ime (s : State) (r : Pair) (w : Word) : (s.setPair r w).cpu.ime = s.cpu.ime := by cases r <;> rfl
@[simp] theorem State.setPair_cpu_imeDelay (s : State) (r : Pair) (w : Word) : (s.setPair r w).cpu.imeDelay = s.cpu.imeDelay := by cases r <;> rfl
@[simp] theorem State.setPair_cpu_halted (s : State) (r : Pair) (w : Word) : (s.setPair r w).cpu.halted = s.cpu.halted := by cases r <;> rfl
@[simp] theorem State.setPair_cpu_stopped (s : State) (r : Pair) (w : Word) : (s.setPair r w).cpu.stopped = s.cpu.stopped := by cases r <;> rfl
@[simp] theorem State.setPair_cpu_haltBug (s : State) (r : Pair) (w : Word) : (s.setPair r w).cpu.haltBug = s.cpu.haltBug := by cases r <;> rfl
@[simp] theorem State.setPair_cpu_dmaStall (s : State) (r : Pair) (w : Word) : (s.setPair r w).cpu.dmaStall = s.cpu.dmaStall := by cases r <;> rfl
@[simp] theorem State.setPair_cpu_fatal (s : State) (r : Pair) (w : Word) : (s.setPair r w).cpu.fatal = s.cpu.fatal := by cases r <;> rfl
@[simp] theorem State.setPair_cpu_cycles (s : State) (r : Pair) (w : Word) : (s.setPair r w).cpu.cycles = s.cpu.cycles := by cases r <;> rfl
@[simp] theorem State.setPair_cpu_opAddr (s : State) (r : Pair) (w : Word) : (s.setPair r w).cpu.opAddr = s.cpu.opAddr := by cases r <;> rfl
@[simp] theorem State.setPair_ie (s : State) (r : Pair) (w : Word) : (s.setPair r w).ie = s.ie := by cases r <;> rfl
@[simp] theorem State.setPair_intf (s : State) (r : Pair) (w : Word) : (s.setPair r w).intf = s.intf := by cases r <;> rfl
@[simp] theorem State.setPair_p1 (s : State) (r : Pair) (w : Word) : (s.setPair r w).p1 = s.p1 := by cases r <;> rfl
@[simp] theorem State.setPair_timer (s : State) (r : Pair) (w : Word) : (s.setPair r w).timer = s.timer := by cases r <;> rfl
@[simp] theorem State.setPair_serial (s : State) (r : Pair) (w : Word) : (s.setPair r w).serial = s.serial := by cases r <;> rfl
@[simp] theorem State.setPair_ppu (s : State) (r : Pair) (w : Word) : (s.setPair r w).ppu = s.ppu := by cases r <;> rfl
@[simp] theorem State.setPair_apu (s : State) (r : Pair) (w : Word) : (s.setPair r w).apu = s.apu := by cases r <;> rfl
@[simp] theorem State.setPair_cart (s : State) (r : Pair) (w : Word) : (s.setPair r w).cart = s.cart := by cases r <;> rfl
@[simp] theorem State.setPair_vram (s : State) (r : Pair) (w : Word) : (s.setPair r w).vram = s.vram := by cases r <;> rfl
@[simp] theorem State.setPair_wram (s : State) (r : Pair) (w : Word) : (s.setPair r w).wram = s.wram := by cases r <;> rfl
@[simp] theorem State.setPair_oam (s : State) (r : Pair) (w : Word) : (s.setPair r w).oam = s.oam := by cases r <;> rfl
@[simp] theorem State.setPair_hram (s : State) (r : Pair) (w : Word) : (s.setPair r w).hram = s.hram := by cases r <;> rfl
@[simp] theorem State.setPair_buttons (s : State) (r : Pair) (w : Word) : (s.setPair r w).buttons = s.buttons := by cases r <;> rfl
@[simp] theorem State.setPair_buttonsPrev (s : State) (r : Pair) (w : Word) : (s.setPair r w).buttonsPrev = s.buttonsPrev := by cases r <;> rfl
@[simp] theorem State.setPair_stopRequested (s : State) (r : Pair) (w : Word) : (s.setPair r w).stopRequested = s.stopRequested := by cases r <;> rfl
@[simp] theorem State.setPair_ended (s : State) (r : Pair) (w : Word) : (s.setPair r w).ended = s.ended := by cases r <;> rfl
@[simp] theorem State.setPair_tCycles (s : State) (r : Pair) (w : Word) : (s.setPair r w).tCycles = s.tCycles := by cases r <;> rfl
@[simp] theorem State.setPair_params (s : State) (r : Pair) (w : Word) : (s.setPair r w).params = s.params := by cases r <;> rfl

@[simp] theorem State.setStackPair_cpu_sp (s : State) (r : StackPair) (w : Word) : (s.setStackPair r w).cpu.sp = s.cpu.sp := by cases r <;> rfl
@[simp] theorem State.setStackPair_cpu_pc (s : State) (r : StackPair) (w : Word) : (s.setStackPair r w).cpu.pc = s.cpu.pc := by cases r <;> rfl
@[simp] theorem State.setStackPair_cpu_ime (s : State) (r : StackPair) (w : Word) : (s.setStackPair r w).cpu.ime = s.cpu.ime := by cases r <;> rfl
@[simp] theorem State.setStackPair_cpu_imeDelay (s : State) (r : StackPair) (w : Word) : (s.setStackPair r w).cpu.imeDelay = s.cpu.imeDelay := by cases r <;> rfl
@[simp] theorem State.setStackPair_cpu_halted (s : State) (r : StackPair) (w : Word) : (s.setStackPair r w).cpu.halted = s.cpu.halted := by cases r <;> rfl
@[simp] theorem State.setStackPair_cpu_stopped (s : State) (r : StackPair) (w : Word) : (s.setStackPair r w).cpu.stopped = s.cpu.stopped := by cases r <;> rfl
@[simp] theorem State.setStackPair_cpu_haltBug (s : State) (r : StackPair) (w : Word) : (s.setStackPair r w).cpu.haltBug = s.cpu.haltBug := by cases r <;> rfl
@[simp] theorem State.setStackPair_cpu_dmaStall (s : State) (r : StackPair) (w : Word) : (s.setStackPair r w).cpu.dmaStall = s.cpu.dmaStall := by cases r <;> rfl
@[simp] theorem State.setStackPair_cpu_fatal (s : State) (r : StackPair) (w : Word) : (s.setStackPair r w).cpu.fatal = s.cpu.fatal := by cases r <;> rfl
@[simp] theorem State.setStackPair_cpu_cycles (s : State) (r : StackPair) (w : Word) : (s.setStackPair r w).cpu.cycles = s.cpu.cycles := by cases r <;> rfl
@[simp] theorem State.setStackPair_cpu_opAddr (s : State) (r : StackPair) (w : Word) : (s.setStackPair r w).cpu.opAddr = s.cpu.opAddr := by cases r <;> rfl
@[simp] theorem State.setStackPair_ie (s : State) (r : StackPair) (w : Word) : (s.setStackPair r w).ie = s.ie := by cases r <;> rfl
@[simp] theorem State.setStackPair_intf (s : State) (r : StackPair) (w : Word) : (s.setStackPair r w).intf = s.intf := by cases r <;> rfl
@[simp] theorem State.setStackPair_p1 (s : State) (r : StackPair) (w : Word) : (s.setStackPair r w).p1 = s.p1 := by cases r <;> rfl
@[simp] theorem State.setStackPair_timer (s : State) (r : StackPair) (w : Word) : (s.setStackPair r w).timer = s.timer := by cases r <;> rfl
@[simp] theorem State.setStackPair_serial (s : State) (r : StackPair) (w : Word) : (s.setStackPair r w).serial = s.serial := by cases r <;> rfl
@[simp] theorem State.setStackPair_ppu (s : State) (r : StackPair) (w : Word) : (s.setStackPair r w).ppu = s.ppu := by cases r <;> rfl
@[simp] theorem State.setStackPair_apu (s : State) (r : StackPair) (w : Word) : (s.setStackPair r w).apu = s.apu := by cases r <;> rfl
@[simp] theorem State.setStackPair_cart (s : State) (r : StackPair) (w : Word) : (s.setStackPair r w).cart = s.cart := by cases r <;> rfl
@[simp] theorem State.setStackPair_vram (s : State) (r : StackPair) (w : Word) : (s.setStackPair r w).vram = s.vram := by cases r <;> rfl
@[simp] theorem State.setStackPair_wram (s : State) (r : StackPair) (w : Word) : (s.setStackPair r w).wram = s.wram := by cases r <;> rfl
@[simp] theorem State.setStackPair_oam (s : State) (r : StackPair) (w : Word) : (s.setStackPair r w).oam = s.oam := by cases r <;> rfl
@[simp] theorem State.setStackPair_hram (s : State) (r : StackPair) (w : Word) : (s.setStackPair r w).hram = s.hram := by cases r <;> rfl
@[simp] theorem State.setStackPair_buttons (s : State) (r : StackPair) (w : Word) : (s.setStackPair r w).buttons = s.buttons := by cases r <;> rfl
@[simp] theorem State.setStackPair_buttonsPrev (s : State) (r : StackPair) (w : Word) : (s.setStackPair r w).buttonsPrev = s.buttonsPrev := by cases r <;> rfl
@[simp] theorem State.setStackPair_stopRequested (s : State) (r : StackPair) (w : Word) : (s.setStackPair r w).stopRequested = s.stopRequested := by cases r <;> rfl
@[simp] theorem State.setStackPair_ended (s : State) (r : StackPair) (w : Word) : (s.setStackPair r w).ended = s.ended := by cases r <;> rfl
@[simp] theorem State.setStackPair_tCycles (s : State) (r : StackPair) (w : Word) : (s.setStackPair r w).tCycles = s.tCycles := by cases r <;> rfl
@[simp] theorem State.setStackPair_params (s : State) (r : StackPair) (w : Word) : (s.setStackPair r w).params = s.params := by cases r <;> rfl

@[simp] theorem State.putTimer_cpu (s : State) (r : Timer × Bool) : (s.putTimer r).cpu = s.cpu := rfl
@[simp] theorem State.putTimer_ie (s : State) (r : Timer × Bool) : (s.putTimer r).ie = s.ie := rfl
@[simp] theorem State.putTimer_intf (s : State) (r : Timer × Bool) : (s.putTimer r).intf = s.intf ||| irqIf r.2 irqTimer := rfl
@[simp] theorem State.putTimer_p1 (s : State) (r : Timer × Bool) : (s.putTimer r).p1 = s.p1 := rfl
@[simp] theorem State.putTimer_timer (s : State) (r : Timer × Bool) : (s.putTimer r).timer = r.1 := rfl
@[simp] theorem State.putTimer_serial (s : State) (r : Timer × Bool) : (s.putTimer r).serial = s.serial := rfl
@[simp] theorem State.putTimer_ppu (s : State) (r : Timer × Bool) : (s.putTimer r).ppu = s.ppu := rfl
@[simp] theorem State.putTimer_apu (s : State) (r : Timer × Bool) : (s.putTimer r).apu = s.apu := rfl
@[simp] theorem State.putTimer_cart (s : State) (r : Timer × Bool) : (s.putTimer r).cart = s.cart := rfl
@[simp] theorem State.putTimer_vram (s : State) (r : Timer × Bool) : (s.putTimer r).vram = s.vram := rfl
@[simp] theorem State.putTimer_wram (s : State) (r : Timer × Bool) : (s.putTimer r).wram = s.wram := rfl
@[simp] theorem State.putTimer_oam (s : State) (r : Timer × Bool) : (s.putTimer r).oam = s.oam := rfl
@[simp] theorem State.putTimer_hram (s : State) (r : Timer × Bool) : (s.putTimer r).hram = s.hram := rfl
@[simp] theorem State.putTimer_buttons (s : State) (r : Timer × Bool) : (s.putTimer r).buttons = s.buttons := rfl
@[simp] theorem State.putTimer_buttonsPrev (s : State) (r : Timer × Bool) : (s.putTimer r).buttonsPrev = s.buttonsPrev := rfl
@[simp] theorem State.putTimer_stopRequested (s : State) (r : Timer × Bool) : (s.putTimer r).stopRequested = s.stopRequested := rfl
@[simp] theorem State.putTimer_ended (s : State) (r : Timer × Bool) : (s.putTimer r).ended = s.ended := rfl
@[simp] theorem State.putTimer_tCycles (s : State) (r : Timer × Bool) : (s.putTimer r).tCycles = s.tCycles := rfl
@[simp] theorem State.putTimer_params (s : State) (r : Timer × Bool) : (s.putTimer r).params = s.params := rfl

@[simp] theorem State.putSerial_cpu (s : State) (r : Serial × Bool) : (s.putSerial r).cpu = s.cpu := rfl
@[simp] theorem State.putSerial_ie (s : State) (r : Serial × Bool) : (s.putSerial r).ie = s.ie := rfl
@[simp] theorem State.putSerial_intf (s : State) (r : Serial × Bool) : (s.putSerial r).intf = s.intf ||| irqIf r.2 irqSerial := rfl
@[simp] theorem State.putSerial_p1 (s : State) (r : Serial × Bool) : (s.putSerial r).p1 = s.p1 := rfl
@[simp] theorem State.putSerial_timer (s : State) (r : Serial × Bool) : (s.putSerial r).timer = s.timer := rfl
@[simp] theorem State.putSerial_serial (s : State) (r : Serial × Bool) : (s.putSerial r).serial = r.1 := rfl
@[simp] theorem State.putSerial_ppu (s : State) (r : Serial × Bool) : (s.putSerial r).ppu = s.ppu := rfl
@[simp] theorem State.putSerial_apu (s : State) (r : Serial × Bool) : (s.putSerial r).apu = s.apu := rfl
@[simp] theorem State.putSerial_cart (s : State) (r : Serial × Bool) : (s.putSerial r).cart = s.cart := rfl
@[simp] theorem State.putSerial_vram (s : State) (r : Serial × Bool) : (s.putSerial r).vram = s.vram := rfl
@[simp] theorem State.putSerial_wram (s : State) (r : Serial × Bool) : (s.putSerial r).wram = s.wram := rfl
@[simp] theorem State.putSerial_oam (s : State) (r : Serial × Bool) : (s.putSerial r).oam = s.oam := rfl
@[simp] theorem State.putSerial_hram (s : State) (r : Serial × Bool) : (s.putSerial r).hram = s.hram := rfl
@[simp] theorem State.putSerial_buttons (s : State) (r : Serial × Bool) : (s.putSerial r).buttons = s.buttons := rfl
@[simp] theorem State.putSerial_buttonsPrev (s : State) (r : Serial × Bool) : (s.putSerial r).buttonsPrev = s.buttonsPrev := rfl
@[simp] theorem State.putSerial_stopRequested (s : State) (r : Serial × Bool) : (s.putSerial r).stopRequested = s.stopRequested := rfl
@[simp] theorem State.putSerial_ended (s : State) (r : Serial × Bool) : (s.putSerial r).ended = s.ended := rfl
@[simp] theorem State.putSerial_tCycles (s : State) (r : Serial × Bool) : (s.putSerial r).tCycles = s.tCycles := rfl
@[simp] theorem State.putSerial_params (s : State) (r : Serial × Bool) : (s.putSerial r).params = s.params := rfl

@[simp] theorem State.putPpu_cpu (s : State) (r : Ppu × BitVec 5) : (s.putPpu r).cpu = s.cpu := rfl
@[simp] theorem State.putPpu_ie (s : State) (r : Ppu × BitVec 5) : (s.putPpu r).ie = s.ie := rfl
@[simp] theorem State.putPpu_intf (s : State) (r : Ppu × BitVec 5) : (s.putPpu r).intf = s.intf ||| r.2 := rfl
@[simp] theorem State.putPpu_p1 (s : State) (r : Ppu × BitVec 5) : (s.putPpu r).p1 = s.p1 := rfl
@[simp] theorem State.putPpu_timer (s : State) (r : Ppu × BitVec 5) : (s.putPpu r).timer = s.timer := rfl
@[simp] theorem State.putPpu_serial (s : State) (r : Ppu × BitVec 5) : (s.putPpu r).serial = s.serial := rfl
@[simp] theorem State.putPpu_ppu (s : State) (r : Ppu × BitVec 5) : (s.putPpu r).ppu = r.1 := rfl
@[simp] theorem State.putPpu_apu (s : State) (r : Ppu × BitVec 5) : (s.putPpu r).apu = s.apu := rfl
@[simp] theorem State.putPpu_cart (s : State) (r : Ppu × BitVec 5) : (s.putPpu r).cart = s.cart := rfl
@[simp] theorem State.putPpu_vram (s : State) (r : Ppu × BitVec 5) : (s.putPpu r).vram = s.vram := rfl
@[simp] theorem State.putPpu_wram (s : State) (r : Ppu × BitVec 5) : (s.putPpu r).wram = s.wram := rfl
@[simp] theorem State.putPpu_oam (s : State) (r : Ppu × BitVec 5) : (s.putPpu r).oam = s.oam := rfl
@[simp] theorem State.putPpu_hram (s : State) (r : Ppu × BitVec 5) : (s.putPpu r).hram = s.hram := rfl
@[simp] theorem State.putPpu_buttons (s : State) (r : Ppu × BitVec 5) : (s.putPpu r).buttons = s.buttons := rfl
@[simp] theorem State.putPpu_buttonsPrev (s : State) (r : Ppu × BitVec 5) : (s.putPpu r).buttonsPrev = s.buttonsPrev := rfl
@[simp] theorem State.putPpu_stopRequested (s : State) (r : Ppu × BitVec 5) : (s.putPpu r).stopRequested = s.stopRequested := rfl
@[simp] theorem State.putPpu_ended (s : State) (r : Ppu × BitVec 5) : (s.putPpu r).ended = s.ended := rfl
@[simp] theorem State.putPpu_tCycles (s : State) (r : Ppu × BitVec 5) : (s.putPpu r).tCycles = s.tCycles := rfl
@[simp] theorem State.putPpu_params (s : State) (r : Ppu × BitVec 5) : (s.putPpu r).params = s.params := rfl

@[simp] theorem State.acknowledge_cpu (s : State) (k : Nat) : (s.acknowledge k).cpu = s.cpu := rfl
@[simp] theorem State.acknowledge_ie (s : State) (k : Nat) : (s.acknowledge k).ie = s.ie := rfl
@[simp] theorem State.acknowledge_intf (s : State) (k : Nat) : (s.acknowledge k).intf = s.intf &&& ~~~(1#5 <<< k) := rfl
@[simp] theorem State.acknowledge_p1 (s : State) (k : Nat) : (s.acknowledge k).p1 = s.p1 := rfl
@[simp] theorem State.acknowledge_timer (s : State) (k : Nat) : (s.acknowledge k).timer = s.timer := rfl
@[simp] theorem State.acknowledge_serial (s : State) (k : Nat) : (s.acknowledge k).serial = s.serial := rfl
@[simp] theorem State.acknowledge_ppu (s : State) (k : Nat) : (s.acknowledge k).ppu = s.ppu := rfl
@[simp] theorem State.acknowledge_apu (s : State) (k : Nat) : (s.acknowledge k).apu = s.apu := rfl
@[simp] theorem State.acknowledge_cart (s : State) (k : Nat) : (s.acknowledge k).cart = s.cart := rfl
@[simp] theorem State.acknowledge_vram (s : State) (k : Nat) : (s.acknowledge k).vram = s.vram := rfl
@[simp] theorem State.acknowledge_wram (s : State) (k : Nat) : (s.acknowledge k).wram = s.wram := rfl
@[simp] theorem State.acknowledge_oam (s : State) (k : Nat) : (s.acknowledge k).oam = s.oam := rfl
@[simp] theorem State.acknowledge_hram (s : State) (k : Nat) : (s.acknowledge k).hram = s.hram := rfl
@[simp] theorem State.acknowledge_buttons (s : State) (k : Nat) : (s.acknowledge k).buttons = s.buttons := rfl
@[simp] theorem State.acknowledge_buttonsPrev (s : State) (k : Nat) : (s.acknowledge k).buttonsPrev = s.buttonsPrev := rfl
@[simp] theorem State.acknowledge_stopRequested (s : State) (k : Nat) : (s.acknowledge k).stopRequested = s.stopRequested := rfl
@[simp] theorem State.acknowledge_ended (s : State) (k : Nat) : (s.acknowledge k).ended = s.ended := rfl
@[simp] theorem State.acknowledge_tCycles (s : State) (k : Nat) : (s.acknowledge k).tCycles = s.tCycles := rfl
@[simp] theorem State.acknowledge_params (s : State) (k : Nat) : (s.acknowledge k).params = s.params := rfl

/-- What was written to a register is read back, and no other register changes. -/
@[simp] theorem State.getReg_setReg (s : State) (r x : Reg8) (v : Byte) :
    (s.setReg r v).getReg x = if x = r then v else s.getReg x := by
  cases r <;> cases x <;> rfl

@[simp] theorem State.getReg_setFlags (s : State) (g : Flags) (x : Reg8) : (s.setFlags g).getReg x = s.getReg x := by
  cases x <;> rfl

@[simp] theorem State.getReg_setPc (s : State) (w : Word) (x : Reg8) : (s.setPc w).getReg x = s.getReg x := by
  cases x <;> rfl

@[simp] theorem State.getReg_setSp (s : State) (w : Word) (x : Reg8) : (s.setSp w).getReg x = s.getReg x := by
  cases x <;> rfl

/-- A register depends on the processor alone. -/
theorem State.getReg_congr {s t : State} (h : t.cpu = s.cpu) (x : Reg8) : t.getReg x = s.getReg x := by
  cases x <;> simp [State.getReg, h]

theorem hi_hilo (h l : Byte) : hi (hilo h l) = h := by
  unfold hi hilo
  ext i hi
  rw [BitVec.getElem_extractLsb']
  exact (BitVec.getLsbD_append (x := h) (y := l)).trans (by simp [BitVec.getLsbD_eq_getElem hi])

theorem lo_hilo (h l : Byte) : lo (hilo h l) = l := by
  unfold lo hilo
  ext i hi
  rw [BitVec.getElem_extractLsb']
  exact (BitVec.getLsbD_append (x := h) (y := l)).trans (by simp [hi])

theorem hilo_hi_lo (w : Word) : hilo (hi w) (lo w) = w := by
  unfold hi lo hilo
  ext i hi
  simp only [BitVec.getElem_append, BitVec.getElem_extractLsb']
  split
  · rw [Nat.zero_add]; rfl
  · rw [show 8 + (i - 8) = i by omega]; rfl

/-- A change of the processor alone changes no byte that can be read. -/
theorem memRead_congr {s t : State} (h : t = { s with cpu := t.cpu }) (a : Word) : memRead t a = memRead s a := by
  rw [h]
  rfl

end Sys2Proof.Machine
end

