-- ==== Sys2Proof/Laws/Bus.lean ====
section
/-! SUPPORT. Sys2Proof/Laws/Bus.lean: what a bus write can do, once for every region and every register. -/

namespace Sys2Proof.Machine

open Sys2Proof.Config

/-- An offset is inside its array (R150). -/
def Region.inside : Region → Prop
  | .rom n => n < 0x8000
  | .vram i => i < 8192
  | .eram n => 0xA000 ≤ n ∧ n < 0xC000
  | .wram i => i < 8192
  | .oam i => i < 160
  | .unusable => True
  | .io i => i < 128
  | .hram i => i < 127
  | .ie => True

/-- Every offset the region table gives is inside its array (R150). -/
theorem region_inside (a : Word) : (region a).inside := by
  have h := a.isLt
  unfold region
  simp only
  split_ifs <;> simp only [Region.inside] <;> omega

/-- The region of an address below 0x8000 (R150). -/
theorem region_rom {a : Word} (h : a.toNat < 0x8000) : region a = .rom a.toNat := if_pos h

/-- The region of an address in 0x8000-0x9FFF. -/
theorem region_vram {a : Word} (l : 0x8000 ≤ a.toNat) (h : a.toNat < 0xA000) : region a = .vram (a.toNat - 0x8000) := by
  simp only [region]; split_ifs <;> first | omega | rfl

/-- The region of an address in 0xA000-0xBFFF. -/
theorem region_eram {a : Word} (l : 0xA000 ≤ a.toNat) (h : a.toNat < 0xC000) : region a = .eram a.toNat := by
  simp only [region]; split_ifs <;> first | omega | rfl

/-- The region of an address in 0xC000-0xDFFF. -/
theorem region_wram {a : Word} (l : 0xC000 ≤ a.toNat) (h : a.toNat < 0xE000) : region a = .wram (a.toNat - 0xC000) := by
  simp only [region]; split_ifs <;> first | omega | rfl

/-- The region of an address in the echo 0xE000-0xFDFF. -/
theorem region_echo {a : Word} (l : 0xE000 ≤ a.toNat) (h : a.toNat < 0xFE00) : region a = .wram (a.toNat - 0xE000) := by
  simp only [region]; split_ifs <;> first | omega | rfl

/-- The region of an address in 0xFE00-0xFE9F. -/
theorem region_oam {a : Word} (l : 0xFE00 ≤ a.toNat) (h : a.toNat < 0xFEA0) : region a = .oam (a.toNat - 0xFE00) := by
  simp only [region]; split_ifs <;> first | omega | rfl

/-- The region of an address in 0xFEA0-0xFEFF. -/
theorem region_unusable {a : Word} (l : 0xFEA0 ≤ a.toNat) (h : a.toNat < 0xFF00) : region a = .unusable := by
  simp only [region]; split_ifs <;> first | omega | rfl

/-- The region of an address in 0xFF00-0xFF7F. -/
theorem region_io {a : Word} (l : 0xFF00 ≤ a.toNat) (h : a.toNat < 0xFF80) : region a = .io (a.toNat - 0xFF00) := by
  simp only [region]; split_ifs <;> first | omega | rfl

/-- The region of an address in 0xFF80-0xFFFE. -/
theorem region_hram {a : Word} (l : 0xFF80 ≤ a.toNat) (h : a.toNat < 0xFFFF) : region a = .hram (a.toNat - 0xFF80) := by
  simp only [region]; split_ifs <;> first | omega | rfl

/-- An address in the I/O block and its offset (R150). -/
theorem region_eq_io {a : Word} {i : Nat} (h : region a = .io i) : a.toNat = 0xFF00 + i ∧ i < 0x80 := by
  simp only [region] at h
  split_ifs at h
  injection h
  omega

/-- A bus read of the I/O register `r` at 0xFF00 + `i` (R162). -/
theorem memRead_io {a : Word} {i : Nat} {r : IoReg} (h : a.toNat = 0xFF00 + i) (b : i < 0x80) (k : ioReg i = r)
    (s : State) : memRead s a = ioRead s r := by
  unfold memRead
  rw [region_io (by omega) (by omega), show a.toNat - 0xFF00 = i by omega]
  exact congrArg (ioRead s) k

/-- A bus write to the I/O register `r` at 0xFF00 + `i` (R163). -/
theorem memWrite_io {a : Word} {i : Nat} {r : IoReg} (h : a.toNat = 0xFF00 + i) (b : i < 0x80) (k : ioReg i = r)
    (s : State) (v : Byte) : memWrite s a v = ioWrite s v r := by
  unfold memWrite
  rw [region_io (by omega) (by omega), show a.toNat - 0xFF00 = i by omega]
  exact congrArg (ioWrite s v) k

/-- Wave RAM's I/O addresses and their offsets (R91). -/
theorem ioReg_wave_eq {i j : Nat} (h : ioReg i = .wave j) : i = 0x30 + j ∧ j < 16 := by
  unfold ioReg at h
  split at h
  · cases h
  · split at h
    · injection h; omega
    · split at h <;> cases h

/-- What an access to external RAM reaches is inside an array of `n` cells. -/
def RamTarget.inside (n : Nat) : RamTarget → Prop
  | .cell i => i < n
  | .nibble i => i < n
  | .clock _ _ => True
  | .nothing => True

theorem Cart.ramCell_inside (c : Cart) (p : Bool) (bank a : Nat) : (c.ramCell p bank a).inside c.ramSize := by
  unfold Cart.ramCell
  split
  · next h =>
    simp only [Cart.hasRam, Bool.and_eq_true, bne_iff_ne] at h
    exact Nat.mod_lt _ (Nat.pos_of_ne_zero h.2)
  · trivial

/-- The cells of an external RAM that `ramTarget` reaches are inside it (R230, R252). -/
theorem Cart.ramTarget_inside (c : Cart) (a : Nat) : (c.ramTarget a).inside c.ramCells := by
  unfold Cart.ramTarget Cart.ramCells
  cases c.ctrl with
  | none => exact c.ramCell_inside _ _ _
  | a r => exact c.ramCell_inside _ _ _
  | b r =>
    simp only
    split
    · exact Nat.mod_lt _ (by decide)
    · trivial
  | c r =>
    simp only [Cart.mbc3Target]
    split_ifs
    · exact c.ramCell_inside _ _ _
    · cases r.clock <;> trivial
    · trivial
  | d r => exact c.ramCell_inside _ _ _

@[simp] theorem Cart.ramCells_writeControl (c : Cart) (a : Nat) (v : Byte) :
    (c.writeControl a v).ramCells = c.ramCells := by
  unfold Cart.ramCells Cart.writeControl
  cases c.ctrl <;> rfl

@[simp] theorem Cart.ramCells_setClock (c : Cart) (k : Clock) :
    { c with ctrl := c.ctrl.setClock k }.ramCells = c.ramCells := by
  unfold Cart.ramCells
  cases c.ctrl <;> rfl

@[simp] theorem Cart.ramCells_tick (c : Cart) : c.tick.ramCells = c.ramCells := by
  unfold Cart.ramCells Cart.tick
  cases c.ctrl <;> rfl

/-- External RAM stays canonical and within its size under a write; the image and the header's facts stay. -/
theorem Cart.writeRam_eram {c : Cart} (a : Nat) (v : Byte) (h : c.eram.fits c.ramCells = true) :
    (c.writeRam a v).eram.fits (c.writeRam a v).ramCells = true := by
  have t := c.ramTarget_inside a
  unfold Cart.writeRam
  revert t
  cases c.ramTarget a with
  | cell i => exact fun t => Mem.fits_write v h t
  | nibble i => exact fun t => Mem.fits_write _ h t
  | clock k sel => intro _; simpa using h
  | nothing => exact fun _ => h

theorem Cart.writeRam_fixed (c : Cart) (a : Nat) (v : Byte) :
    (c.writeRam a v).rom = c.rom ∧ (c.writeRam a v).nrom = c.nrom ∧ (c.writeRam a v).nram = c.nram ∧
      (c.writeRam a v).ramSize = c.ramSize ∧ (c.writeRam a v).battery = c.battery := by
  unfold Cart.writeRam
  split <;> exact ⟨rfl, rfl, rfl, rfl, rfl⟩

/-- A write to external RAM leaves what the image shows (R230). -/
theorem Cart.readRom_writeRam (model : Config.Mbc1Model) (c : Cart) (a m : Nat) (v : Byte) :
    (c.writeRam a v).readRom model m = c.readRom model m := by
  have banks : ∀ k : Clock, (c.ctrl.setClock k).lowBank model = c.ctrl.lowBank model ∧
      (c.ctrl.setClock k).highBank model = c.ctrl.highBank model := by
    intro k; cases c.ctrl <;> exact ⟨rfl, rfl⟩
  unfold Cart.writeRam
  split
  · rfl
  · rfl
  · next k sel _ =>
    obtain ⟨b1, b2⟩ := banks (k.set sel v)
    simp only [Cart.readRom, Cart.romAt, Cart.romIndex, b1, b2]
  · rfl

/-- `n` bytes of OAM DMA change OAM alone. -/
theorem dmaCopy_oam (n i : Nat) (base : Word) (s : State) :
    dmaCopy n i base s = { s with oam := (dmaCopy n i base s).oam } := by
  induction n generalizing i s with
  | zero => rfl
  | succ n ih => rw [dmaCopy, ih]

theorem dmaCopy_fits (n i : Nat) (base : Word) (s : State) (h : s.oam.fits 160 = true) (b : i + n ≤ 160) :
    (dmaCopy n i base s).oam.fits 160 = true := by
  induction n generalizing i s with
  | zero => exact h
  | succ n ih => exact ih (i + 1) _ (Mem.fits_write _ h (by omega)) (by omega)

/-- Everything OAM DMA does: the register, OAM and the stall (R190). -/
theorem dmaStart_eq (s : State) (v : Byte) :
    ∃ m, (s.oam.fits 160 = true → m.fits 160 = true) ∧
      dmaStart s v =
        { s with ppu := { s.ppu with dma := v }, oam := m, cpu := { s.cpu with dmaStall := dmaLength } } := by
  have f := fun h => dmaCopy_fits dmaLength 0 (v ++ 0x00#8) { s with ppu := { s.ppu with dma := v } } h (by decide)
  have e := dmaCopy_oam dmaLength 0 (v ++ 0x00#8) { s with ppu := { s.ppu with dma := v } }
  unfold dmaStart
  simp only
  generalize dmaCopy dmaLength 0 (v ++ 0x00#8) { s with ppu := { s.ppu with dma := v } } = t at f e ⊢
  obtain ⟨m, rfl⟩ : ∃ m, t = { s with ppu := { s.ppu with dma := v }, oam := m } := ⟨_, e⟩
  exact ⟨m, f, rfl⟩

/-- Outside memory, the devices' registers and the stall, a write changes nothing. -/
theorem memWrite_cpu (s : State) (a : Word) (v : Byte) :
    (memWrite s a v).cpu = { s.cpu with dmaStall := (memWrite s a v).cpu.dmaStall } := by
  unfold memWrite writeRegion
  split <;> try (first | rfl | (split <;> rfl))
  unfold ioWrite
  split
  case h_17 => obtain ⟨m, -, e⟩ := dmaStart_eq s v; rw [e]
  all_goals rfl

/-- A write leaves the stall as it was or starts one of 160 M-cycles. -/
theorem memWrite_stall (s : State) (a : Word) (v : Byte) :
    (memWrite s a v).cpu.dmaStall = s.cpu.dmaStall ∨ (memWrite s a v).cpu.dmaStall = dmaLength := by
  unfold memWrite writeRegion
  split <;> try (first | exact Or.inl rfl | (split <;> exact Or.inl rfl))
  unfold ioWrite
  split <;> first | exact Or.inl rfl | exact Or.inr rfl

/-- A write keeps the image, the header, the parameters and what only the host writes. -/
theorem memWrite_fixed (s : State) (a : Word) (v : Byte) :
    SameFixed s (memWrite s a v) ∧ (memWrite s a v).ended = s.ended ∧ (memWrite s a v).tCycles = s.tCycles := by
  unfold memWrite writeRegion
  split <;> try (first
    | exact ⟨⟨rfl, rfl, rfl, rfl, rfl, rfl, rfl, rfl, rfl⟩, rfl, rfl⟩
    | (split <;> exact ⟨⟨rfl, rfl, rfl, rfl, rfl, rfl, rfl, rfl, rfl⟩, rfl, rfl⟩))
  · obtain ⟨h1, h2, h3, h4, h5⟩ := s.cart.writeRam_fixed ‹_› v
    exact ⟨⟨h1, h2, h3, h4, h5, rfl, rfl, rfl, rfl⟩, rfl, rfl⟩
  · unfold ioWrite
    split
    case h_17 =>
      obtain ⟨m, -, e⟩ := dmaStart_eq s v
      rw [e]
      exact ⟨⟨rfl, rfl, rfl, rfl, rfl, rfl, rfl, rfl, rfl⟩, rfl, rfl⟩
    all_goals exact ⟨⟨rfl, rfl, rfl, rfl, rfl, rfl, rfl, rfl, rfl⟩, rfl, rfl⟩

@[simp] theorem Apu.wave_sweepCheck (p : Apu) : p.sweepCheck.wave = p.wave := by
  unfold Apu.sweepCheck
  split <;> rfl

@[simp] theorem Apu.wave_trigger1 (p : Apu) : p.trigger1.wave = p.wave := by
  unfold Apu.trigger1
  simp only
  split
  · rw [Apu.wave_sweepCheck]
  · rfl

@[simp] theorem Apu.wave_afterStore (p : Apu) (r : SoundReg) (v : Byte) : (p.afterStore r v).wave = p.wave := by
  cases r <;> first
    | rfl
    | (unfold Apu.afterStore; simp only; split
       · first | exact p.wave_trigger1 | rfl
       · rfl)

/-- No sound register write reaches wave RAM (R736). -/
@[simp] theorem Apu.wave_writeReg (p : Apu) (r : SoundReg) (v : Byte) : (p.writeReg r v).wave = p.wave := by
  unfold Apu.writeReg
  split
  · split_ifs <;> rfl
  · split
    · rw [Apu.wave_afterStore]
    · rfl

/-- Two states with the same memories meet the memory invariant together. -/
theorem MemoryInv.congr {s t : State} (h : MemoryInv s) (v : t.vram = s.vram) (w : t.wram = s.wram) (o : t.oam = s.oam)
    (hr : t.hram = s.hram) (a : t.apu.wave = s.apu.wave) (c : t.cart = s.cart) : MemoryInv t :=
  ⟨v ▸ h.vram, w ▸ h.wram, o ▸ h.oam, hr ▸ h.hram, a ▸ h.wave, c ▸ h.rom, c ▸ h.eram⟩

/-- An I/O write keeps every memory array canonical and within its size. -/
theorem ioWrite_memory {s : State} (i : Nat) (v : Byte) (h : MemoryInv s) : MemoryInv (ioWrite s v (ioReg i)) := by
  cases hi : ioReg i with
  | wave j => exact { h with wave := Mem.fits_write v h.wave (ioReg_wave_eq hi).2 }
  | sound r => exact h.congr rfl rfl rfl rfl (Apu.wave_writeReg _ _ _) rfl
  | dma =>
    obtain ⟨m, f, e⟩ := dmaStart_eq s v
    show MemoryInv (dmaStart s v)
    rw [e]
    exact ⟨h.vram, h.wram, f h.oam, h.hram, h.wave, h.rom, h.eram⟩
  | _ => exact h.congr rfl rfl rfl rfl rfl rfl

/-- A write keeps every memory array canonical and within its size. -/
theorem memWrite_memory {s : State} (a : Word) (v : Byte) (h : MemoryInv s) : MemoryInv (memWrite s a v) := by
  have lt := region_inside a
  unfold memWrite
  revert lt
  cases region a with
  | rom n =>
    intro _
    exact ⟨h.vram, h.wram, h.oam, h.hram, h.wave, h.rom, by
      show Mem.fits (s.cart.writeControl n v).ramCells s.cart.eram = true
      rw [Cart.ramCells_writeControl]
      exact h.eram⟩
  | vram i =>
    intro lt
    unfold writeRegion
    simp only
    split
    · exact h
    · exact { h with vram := Mem.fits_write v h.vram lt }
  | eram n =>
    intro _
    obtain ⟨h1, h2, _⟩ := s.cart.writeRam_fixed n v
    exact ⟨h.vram, h.wram, h.oam, h.hram, h.wave, by
      show Mem.fits ((s.cart.writeRam n v).nrom * 0x4000) (s.cart.writeRam n v).rom = true
      rw [h1, h2]
      exact h.rom, Cart.writeRam_eram n v h.eram⟩
  | wram i => exact fun lt => { h with wram := Mem.fits_write v h.wram lt }
  | oam i =>
    intro lt
    unfold writeRegion
    simp only
    split
    · exact h
    · exact { h with oam := Mem.fits_write v h.oam lt }
  | unusable => exact fun _ => h
  | hram i => exact fun lt => { h with hram := Mem.fits_write v h.hram lt }
  | ie => exact fun _ => h.congr rfl rfl rfl rfl rfl rfl
  | io i => exact fun _ => ioWrite_memory i v h

/-- What a plain store leaves is read back at the address (R71, R156, R157, R164). -/
theorem memRead_memWrite_same {s : State} (h : MemoryInv s) {a : Word} (p : plainAt s a) (v : Byte) :
    memRead (memWrite s a v) a = v := by
  have fit : ∀ {n : Nat} {m : Mem} (i : Nat), m.fits n = true → (m.write i v).read i = v := fun i f =>
    Mem.read_write_same i v (by simp only [Mem.fits, Bool.and_eq_true] at f; exact f.1)
  unfold memRead memWrite
  unfold plainAt at p
  revert p
  cases region a with
  | wram i => exact fun _ => fit i h.wram
  | hram i => exact fun _ => fit i h.hram
  | vram i => intro p; simp only at p; simp [writeRegion, readRegion, p, fit i h.vram]
  | oam i => intro p; simp only at p; simp [writeRegion, readRegion, p, fit i h.oam]
  | ie => exact fun _ => rfl
  | rom n => exact fun p => p.elim
  | eram n => exact fun p => p.elim
  | unusable => exact fun p => p.elim
  | io i => exact fun p => p.elim

/-- What `region_shown` says of an address `b`. -/
def Region.shown (b : Word) : Region → Prop
  | .rom _ => fromCartridge b
  | .vram _ => fromDevices b
  | .eram _ => 0xA000 ≤ b.toNat ∧ b.toNat < 0xC000
  | .oam _ => fromDevices b
  | .io _ => fromDevices b
  | .wram _ => True
  | .hram _ => True
  | .unusable => True
  | .ie => True

/-- The address ranges of the regions whose bytes depend on cartridge or devices (R150). -/
theorem region_shown (b : Word) : (region b).shown b := by
  unfold region
  simp only
  split_ifs <;> simp only [Region.shown, fromCartridge, fromDevices] <;> omega

/-- A write to an I/O register leaves cartridge, WRAM, HRAM, IE and the parameters (R163). -/
theorem ioWrite_keeps (s : State) (v : Byte) (r : IoReg) :
    (ioWrite s v r).cart = s.cart ∧ (ioWrite s v r).wram = s.wram ∧ (ioWrite s v r).hram = s.hram ∧
      (ioWrite s v r).ie = s.ie ∧ (ioWrite s v r).params = s.params := by
  unfold ioWrite
  split
  case h_17 =>
    obtain ⟨m, -, e⟩ := dmaStart_eq s v
    rw [e]
    exact ⟨rfl, rfl, rfl, rfl, rfl⟩
  all_goals exact ⟨rfl, rfl, rfl, rfl, rfl⟩

/-- A bus write changes no byte but those `mayChange` names. -/
theorem memRead_memWrite_other {s : State} {a b : Word} (v : Byte) (ne : ¬mayChange s a b) :
    memRead (memWrite s a v) b = memRead s b := by
  have shown := region_shown b
  unfold memRead memWrite
  unfold mayChange at ne
  revert ne
  cases region a with
  | wram i =>
    intro ne
    cases hb : region b with
    | wram j => exact Mem.read_write_other v (fun e => ne (by rw [hb, e]))
    | _ => rfl
  | hram i =>
    intro ne
    cases hb : region b with
    | hram j => exact Mem.read_write_other v (fun e => ne (by rw [hb, e]))
    | _ => rfl
  | ie =>
    intro ne
    cases hb : region b with
    | ie => exact absurd hb ne
    | _ => rfl
  | vram i =>
    intro ne
    by_cases p : s.ppu.blocked = true
    · simp [writeRegion, p]
    have e : writeRegion s v (.vram i) = { s with vram := s.vram.write i v } := by simp [writeRegion, p]
    rw [e]
    simp only [Bool.not_eq_true] at p
    cases hb : region b with
    | vram j =>
      exact congrArg (fun x => if s.ppu.blocked = true then s.params.sentinel else x)
        (Mem.read_write_other v (fun e => ne ⟨p, by rw [hb, e]⟩))
    | _ => rfl
  | oam i =>
    intro ne
    by_cases p : s.ppu.blocked = true
    · simp [writeRegion, p]
    have e : writeRegion s v (.oam i) = { s with oam := s.oam.write i v } := by simp [writeRegion, p]
    rw [e]
    simp only [Bool.not_eq_true] at p
    cases hb : region b with
    | oam j =>
      exact congrArg (fun x => if s.ppu.blocked = true then s.params.sentinel else x)
        (Mem.read_write_other v (fun e => ne ⟨p, by rw [hb, e]⟩))
    | _ => rfl
  | rom n =>
    intro ne
    cases hb : region b with
    | rom m => exact absurd (by rw [hb] at shown; exact shown) ne
    | eram m => exact absurd (Or.inr (by rw [hb] at shown; exact shown)) ne
    | _ => rfl
  | eram n =>
    intro ne
    obtain ⟨h1, h2, h3, h4, h5⟩ := s.cart.writeRam_fixed n v
    cases hb : region b with
    | eram m => exact absurd (by rw [hb] at shown; exact shown) ne
    | rom m => exact Cart.readRom_writeRam s.params.mbc1Model s.cart n m v
    | _ => rfl
  | unusable => exact fun _ => rfl
  | io i =>
    intro ne
    obtain ⟨hc, hw, hh, hi, hp⟩ := ioWrite_keeps s v (ioReg i)
    cases hb : region b with
    | vram j => exact absurd (by rw [hb] at shown; exact shown) ne
    | oam j => exact absurd (by rw [hb] at shown; exact shown) ne
    | io j => exact absurd (by rw [hb] at shown; exact shown) ne
    | rom m => simp only [readRegion, writeRegion, hc, hp]
    | eram m => simp only [readRegion, writeRegion, hc, hp]
    | wram j => simp only [readRegion, writeRegion, hw]
    | hram j => simp only [readRegion, writeRegion, hh]
    | ie => simp only [readRegion, writeRegion, hi]
    | unusable => simp only [readRegion, writeRegion, hp]

end Sys2Proof.Machine
end

