-- ==== Sys2Proof/Laws/Exec.lean ====
section
/-! SUPPORT. Sys2Proof/Laws/Exec.lean: everything an instruction can do, said once: a chain of register updates, bus
writes, a divider reset and the changes of control state that the rules name. -/

namespace Sys2Proof.Machine

open Sys2Proof

/-- What instructions are made of; the number counts the changes of control state. -/
inductive Does : Nat → State → State → Prop where
  /-- Registers, flags, SP, pc and the cycle count change. -/
  | regs (s : State) (c : Cpu) (ime : c.ime = s.cpu.ime) (delay : c.imeDelay = s.cpu.imeDelay)
      (halted : c.halted = s.cpu.halted) (stopped : c.stopped = s.cpu.stopped) (bug : c.haltBug = s.cpu.haltBug)
      (stall : c.dmaStall = s.cpu.dmaStall) (fatal : c.fatal = s.cpu.fatal) (addr : c.opAddr = s.cpu.opAddr) :
      Does 0 s { s with cpu := c }
  /-- A byte is offered to the bus. -/
  | write (s : State) (a : Word) (v : Byte) : Does 0 s (memWrite s a v)
  /-- The divider is reset (`STOP`). -/
  | div (s : State) : Does 0 s (divReset s)
  /-- The stop state is entered. -/
  | stop (s : State) : Does 1 s { s with cpu := { s.cpu with stopped := true } }
  /-- The halt state is entered. -/
  | halt (s : State) : Does 1 s { s with cpu := { s.cpu with halted := true } }
  /-- The halt bug is armed, IME being 0. -/
  | bug (s : State) (h : s.cpu.ime = false) : Does 1 s { s with cpu := { s.cpu with haltBug := true } }
  /-- `EI` takes effect later, IME being 0. -/
  | ei (s : State) (h : s.cpu.ime = false) : Does 1 s { s with cpu := { s.cpu with imeDelay := 2 } }
  /-- IME changes at once, and no `EI` is pending (`DI`, `RETI`). -/
  | ime (s : State) (b : Bool) : Does 1 s { s with cpu := { s.cpu with ime := b, imeDelay := 0 } }
  /-- A fatal condition is recorded. -/
  | fatal (s : State) (u : UndefinedOpcode) : Does 1 s { s with cpu := { s.cpu with fatal := some u } }
  /-- One after the other. -/
  | seq {j k : Nat} {s t u : State} (h : Does j s t) (g : Does k t u) : Does (j + k) s u

/-- An operation answers a next state, reached by `Does` with at most one change of control state. -/
def Doing (f : State → Result) : Prop := ∀ s, ∃ t, f s = .next t ∧ ∃ k ≤ 1, Does k s t

theorem Does.refl (s : State) : Does 0 s s := .regs s s.cpu rfl rfl rfl rfl rfl rfl rfl rfl

theorem Does.setReg (s : State) (r : Reg8) (v : Byte) : Does 0 s (s.setReg r v) := by
  cases r <;> exact .regs s _ rfl rfl rfl rfl rfl rfl rfl rfl

theorem Does.setPair (s : State) (p : Pair) (w : Word) : Does 0 s (s.setPair p w) := by
  cases p <;> exact .regs s _ rfl rfl rfl rfl rfl rfl rfl rfl

theorem Does.setStackPair (s : State) (q : StackPair) (w : Word) : Does 0 s (s.setStackPair q w) := by
  cases q <;> exact .regs s _ rfl rfl rfl rfl rfl rfl rfl rfl

theorem Does.setFlags (s : State) (g : Flags) : Does 0 s (s.setFlags g) := .regs s _ rfl rfl rfl rfl rfl rfl rfl rfl

theorem Does.setPc (s : State) (w : Word) : Does 0 s (s.setPc w) := .regs s _ rfl rfl rfl rfl rfl rfl rfl rfl

theorem Does.setSp (s : State) (w : Word) : Does 0 s (s.setSp w) := .regs s _ rfl rfl rfl rfl rfl rfl rfl rfl

theorem Does.setHl (s : State) (w : Word) : Does 0 s (s.setHl w) := .regs s _ rfl rfl rfl rfl rfl rfl rfl rfl

theorem Does.storeTarget (s : State) (t : Target) (v : Byte) : Does 0 s (s.storeTarget t v) := by
  cases t with
  | reg r => exact .setReg s r v
  | atHl => exact .write s _ v

theorem Does.bumpPointer (s : State) (p : Pointer) : Does 0 s (s.bumpPointer p) := by
  cases p with
  | bc => exact .refl s
  | de => exact .refl s
  | hlInc => exact .setHl s _
  | hlDec => exact .setHl s _

/-- A push moves SP and offers two bytes to the bus (R14). -/
theorem Does.push16 (s : State) (v : Word) : Does 0 s (push16 s v) :=
  .seq (.setSp s _) (.seq (.write _ _ _) (.seq (.setSp _ _) (.write _ _ _)))

/-- A pop moves SP (R14). -/
theorem Does.pop16 (s : State) : Does 0 s (pop16 s).2 := .seq (.setSp s _) (.setSp _ _)

theorem Does.done {k : Nat} {s t : State} (n : Nat) (h : Does k s t) (le : k ≤ 1) :
    ∃ u, Machine.done n t = .next u ∧ ∃ k ≤ 1, Does k s u :=
  ⟨_, rfl, k, le, .seq h (.regs t { t.cpu with cycles := n } rfl rfl rfl rfl rfl rfl rfl rfl)⟩

theorem loadReg_does (x r : Reg8) : Doing (Machine.loadReg x r) := fun s => Does.done _ (Does.setReg s _ _) (Nat.zero_le 1)
theorem loadImm_does (x : Reg8) (n : Byte) : Doing (Machine.loadImm x n) := fun s => Does.done _ (Does.setReg s _ _) (Nat.zero_le 1)
theorem loadAtHl_does (x : Reg8) : Doing (Machine.loadAtHl x) := fun s => Does.done _ (Does.setReg s _ _) (Nat.zero_le 1)
theorem storeAtHl_does (r : Reg8) : Doing (Machine.storeAtHl r) := fun s => Does.done _ (Does.write s _ _) (Nat.zero_le 1)
theorem storeImm_does (n : Byte) : Doing (Machine.storeImm n) := fun s => Does.done _ (Does.write s _ _) (Nat.zero_le 1)
theorem loadA_does (p : Pointer) : Doing (Machine.loadA p) := fun s => Does.done _ (Does.seq (.setReg s _ _) (.bumpPointer _ p)) (Nat.zero_le 1)
theorem storeA_does (p : Pointer) : Doing (Machine.storeA p) := fun s => Does.done _ (Does.seq (.write s _ _) (.bumpPointer _ p)) (Nat.zero_le 1)
theorem loadAbs_does (a : Word) : Doing (Machine.loadAbs a) := fun s => Does.done _ (Does.setReg s _ _) (Nat.zero_le 1)
theorem storeAbs_does (a : Word) : Doing (Machine.storeAbs a) := fun s => Does.done _ (Does.write s _ _) (Nat.zero_le 1)
theorem storeHigh_does (n : Byte) : Doing (Machine.storeHigh n) := fun s => Does.done _ (Does.write s _ _) (Nat.zero_le 1)
theorem loadHigh_does (n : Byte) : Doing (Machine.loadHigh n) := fun s => Does.done _ (Does.setReg s _ _) (Nat.zero_le 1)
theorem storeHighC_does : Doing Machine.storeHighC := fun s => Does.done _ (Does.write s _ _) (Nat.zero_le 1)
theorem loadHighC_does : Doing Machine.loadHighC := fun s => Does.done _ (Does.setReg s _ _) (Nat.zero_le 1)
theorem loadPair_does (p : Pair) (w : Word) : Doing (Machine.loadPair p w) := fun s => Does.done _ (Does.setPair s p w) (Nat.zero_le 1)
theorem storeSp_does (a : Word) : Doing (Machine.storeSp a) := fun s => Does.done _ (Does.seq (.write s _ _) (.write _ _ _)) (Nat.zero_le 1)
theorem loadSp_does : Doing Machine.loadSp := fun s => Does.done _ (Does.setSp s _) (Nat.zero_le 1)
theorem pushPair_does (q : StackPair) : Doing (Machine.pushPair q) := fun s => Does.done _ (Does.push16 s _) (Nat.zero_le 1)
theorem popPair_does (q : StackPair) : Doing (Machine.popPair q) := fun s => Does.done _ (Does.seq (.pop16 s) (.setStackPair _ _ _)) (Nat.zero_le 1)
theorem aluA_does (o : AluOp) (x : Source) : Doing (Machine.aluA o x) := fun s => Does.done _ (Does.seq (.setReg s _ _) (.setFlags _ _)) (Nat.zero_le 1)
theorem incReg_does (r : Reg8) : Doing (Machine.incReg r) := fun s => Does.done _ (Does.seq (.setReg s _ _) (.setFlags _ _)) (Nat.zero_le 1)
theorem decReg_does (r : Reg8) : Doing (Machine.decReg r) := fun s => Does.done _ (Does.seq (.setReg s _ _) (.setFlags _ _)) (Nat.zero_le 1)
theorem incAtHl_does : Doing Machine.incAtHl := fun s => Does.done _ (Does.seq (.write s _ _) (.setFlags _ _)) (Nat.zero_le 1)
theorem decAtHl_does : Doing Machine.decAtHl := fun s => Does.done _ (Does.seq (.write s _ _) (.setFlags _ _)) (Nat.zero_le 1)
theorem daaA_does : Doing Machine.daaA := fun s => Does.done _ (Does.seq (.setReg s _ _) (.setFlags _ _)) (Nat.zero_le 1)
theorem cplA_does : Doing Machine.cplA := fun s => Does.done _ (Does.seq (.setReg s _ _) (.setFlags _ _)) (Nat.zero_le 1)
theorem setCarry_does : Doing Machine.setCarry := fun s => Does.done _ (Does.setFlags s _) (Nat.zero_le 1)
theorem flipCarry_does : Doing Machine.flipCarry := fun s => Does.done _ (Does.setFlags s _) (Nat.zero_le 1)
theorem incPair_does (p : Pair) : Doing (Machine.incPair p) := fun s => Does.done _ (Does.setPair s _ _) (Nat.zero_le 1)
theorem decPair_does (p : Pair) : Doing (Machine.decPair p) := fun s => Does.done _ (Does.setPair s _ _) (Nat.zero_le 1)
theorem addHl_does (p : Pair) : Doing (Machine.addHl p) := fun s => Does.done _ (Does.seq (.setHl s _) (.setFlags _ _)) (Nat.zero_le 1)
theorem addSp_does (e : Byte) : Doing (Machine.addSp e) := fun s => Does.done _ (Does.seq (.setSp s _) (.setFlags _ _)) (Nat.zero_le 1)
theorem loadHlSp_does (e : Byte) : Doing (Machine.loadHlSp e) := fun s => Does.done _ (Does.seq (.setHl s _) (.setFlags _ _)) (Nat.zero_le 1)
theorem rotateA_does (o : ShiftOp) : Doing (Machine.rotateA o) := fun s => Does.done _ (Does.seq (.setReg s _ _) (.setFlags _ _)) (Nat.zero_le 1)
theorem shiftTarget_does (o : ShiftOp) (x : Target) : Doing (Machine.shiftTarget o x) := fun s => Does.done _ (Does.seq (.storeTarget s _ _) (.setFlags _ _)) (Nat.zero_le 1)
theorem testBit_does (b : Nat) (x : Target) : Doing (Machine.testBit b x) := fun s => Does.done _ (Does.setFlags s _) (Nat.zero_le 1)
theorem clearBit_does (b : Nat) (x : Target) : Doing (Machine.clearBit b x) := fun s => Does.done _ (Does.storeTarget s _ _) (Nat.zero_le 1)
theorem raiseBit_does (b : Nat) (x : Target) : Doing (Machine.raiseBit b x) := fun s => Does.done _ (Does.storeTarget s _ _) (Nat.zero_le 1)
theorem jump_does (a : Word) : Doing (Machine.jump a) := fun s => Does.done _ (Does.setPc s _) (Nat.zero_le 1)
theorem jumpHl_does : Doing Machine.jumpHl := fun s => Does.done _ (Does.setPc s _) (Nat.zero_le 1)
theorem jumpRel_does (e : Byte) : Doing (Machine.jumpRel e) := fun s => Does.done _ (Does.setPc s _) (Nat.zero_le 1)
theorem call_does (a : Word) : Doing (Machine.call a) := fun s => Does.done _ (Does.seq (.push16 s _) (.setPc _ _)) (Nat.zero_le 1)
theorem ret_does : Doing Machine.ret := fun s => Does.done _ (Does.seq (.pop16 s) (.setPc _ _)) (Nat.zero_le 1)
theorem restart_does (t : Word) : Doing (Machine.restart t) := fun s => Does.done _ (Does.seq (.push16 s _) (.setPc _ _)) (Nat.zero_le 1)
theorem noOperation_does : Doing Machine.noOperation := fun s => Does.done _ (Does.refl s) (Nat.zero_le 1)
theorem enterStop_does : Doing Machine.enterStop := fun s => Does.done _ (Does.seq (.div s) (.stop _)) (Nat.le_refl 1)
theorem disableInterrupts_does : Doing Machine.disableInterrupts := fun s => Does.done _ (Does.ime s _) (Nat.le_refl 1)
theorem retInterrupt_does : Doing Machine.retInterrupt := fun s => Does.done _ (Does.seq (.pop16 s) (.seq (.setPc _ (Machine.pop16 s).1) (.ime ((Machine.pop16 s).2.setPc (Machine.pop16 s).1) true))) (Nat.le_refl 1)

theorem jumpIf_does (k : Cond) (a : Word) : Doing (Machine.jumpIf k a) := by
  intro s
  unfold Machine.jumpIf
  split
  · exact Does.done _ (Does.setPc s _) (Nat.zero_le 1)
  · exact Does.done _ (Does.refl s) (Nat.zero_le 1)

theorem jumpRelIf_does (k : Cond) (e : Byte) : Doing (Machine.jumpRelIf k e) := by
  intro s
  unfold Machine.jumpRelIf
  split
  · exact Does.done _ (Does.setPc s _) (Nat.zero_le 1)
  · exact Does.done _ (Does.refl s) (Nat.zero_le 1)

theorem callIf_does (k : Cond) (a : Word) : Doing (Machine.callIf k a) := by
  intro s
  unfold Machine.callIf
  split
  · exact Does.done _ (.seq (.push16 s _) (.setPc _ _)) (Nat.zero_le 1)
  · exact Does.done _ (Does.refl s) (Nat.zero_le 1)

theorem retIf_does (k : Cond) : Doing (Machine.retIf k) := by
  intro s
  unfold Machine.retIf
  split
  · exact Does.done _ (.seq (.pop16 s) (.setPc _ _)) (Nat.zero_le 1)
  · exact Does.done _ (Does.refl s) (Nat.zero_le 1)

theorem enterHalt_does : Doing enterHalt := by
  intro s
  unfold enterHalt
  split
  · next h => exact Does.done _ (.bug s h.1) (Nat.le_refl 1)
  · exact Does.done _ (.halt s) (Nat.le_refl 1)

theorem enableInterrupts_does : Doing enableInterrupts := by
  intro s
  unfold enableInterrupts
  split
  · next h => exact Does.done _ (.ei s h.1) (Nat.le_refl 1)
  · exact Does.done _ (.refl s) (Nat.zero_le 1)

theorem undefinedOpcode_does (op : Byte) : Doing (undefinedOpcode op) := fun s =>
  ⟨_, rfl, 1, Nat.le_refl 1, .seq (.fatal s { op := op, addr := s.cpu.opAddr }) (.regs { s with cpu := { s.cpu with fatal := some { op := op, addr := s.cpu.opAddr } } }
    { s.cpu with fatal := some { op := op, addr := s.cpu.opAddr }, cycles := 0 } rfl rfl rfl rfl rfl rfl rfl rfl)⟩

theorem prefixed_does (op2 : Byte) : Doing (prefixed op2) := by
  intro s
  unfold prefixed
  simp only
  split
  · exact shiftTarget_does _ _ s
  · exact testBit_does _ _ s
  · exact clearBit_does _ _ s
  · exact raiseBit_does _ _ s

/-- Every instruction answers a next state, reached by `Does`. -/
theorem exec_does : ∀ i, Doing (exec i)
  | .prefixCb op2 => prefixed_does op2
  | .ldBB => loadReg_does .b .b
  | .ldBC => loadReg_does .b .c
  | .ldBD => loadReg_does .b .d
  | .ldBE => loadReg_does .b .e
  | .ldBH => loadReg_does .b .h
  | .ldBL => loadReg_does .b .l
  | .ldBA => loadReg_does .b .a
  | .ldCB => loadReg_does .c .b
  | .ldCC => loadReg_does .c .c
  | .ldCD => loadReg_does .c .d
  | .ldCE => loadReg_does .c .e
  | .ldCH => loadReg_does .c .h
  | .ldCL => loadReg_does .c .l
  | .ldCA => loadReg_does .c .a
  | .ldDB => loadReg_does .d .b
  | .ldDC => loadReg_does .d .c
  | .ldDD => loadReg_does .d .d
  | .ldDE => loadReg_does .d .e
  | .ldDH => loadReg_does .d .h
  | .ldDL => loadReg_does .d .l
  | .ldDA => loadReg_does .d .a
  | .ldEB => loadReg_does .e .b
  | .ldEC => loadReg_does .e .c
  | .ldED => loadReg_does .e .d
  | .ldEE => loadReg_does .e .e
  | .ldEH => loadReg_does .e .h
  | .ldEL => loadReg_does .e .l
  | .ldEA => loadReg_does .e .a
  | .ldHB => loadReg_does .h .b
  | .ldHC => loadReg_does .h .c
  | .ldHD => loadReg_does .h .d
  | .ldHE => loadReg_does .h .e
  | .ldHH => loadReg_does .h .h
  | .ldHL => loadReg_does .h .l
  | .ldHA => loadReg_does .h .a
  | .ldLB => loadReg_does .l .b
  | .ldLC => loadReg_does .l .c
  | .ldLD => loadReg_does .l .d
  | .ldLE => loadReg_does .l .e
  | .ldLH => loadReg_does .l .h
  | .ldLL => loadReg_does .l .l
  | .ldLA => loadReg_does .l .a
  | .ldAB => loadReg_does .a .b
  | .ldAC => loadReg_does .a .c
  | .ldAD => loadReg_does .a .d
  | .ldAE => loadReg_does .a .e
  | .ldAH => loadReg_does .a .h
  | .ldAL => loadReg_does .a .l
  | .ldAA => loadReg_does .a .a
  | .ldBN8 n => loadImm_does .b n
  | .ldCN8 n => loadImm_does .c n
  | .ldDN8 n => loadImm_does .d n
  | .ldEN8 n => loadImm_does .e n
  | .ldHN8 n => loadImm_does .h n
  | .ldLN8 n => loadImm_does .l n
  | .ldAN8 n => loadImm_does .a n
  | .ldBAtHl => loadAtHl_does .b
  | .ldCAtHl => loadAtHl_does .c
  | .ldDAtHl => loadAtHl_does .d
  | .ldEAtHl => loadAtHl_does .e
  | .ldHAtHl => loadAtHl_does .h
  | .ldLAtHl => loadAtHl_does .l
  | .ldAAtHl => loadAtHl_does .a
  | .ldAtHlB => storeAtHl_does .b
  | .ldAtHlC => storeAtHl_does .c
  | .ldAtHlD => storeAtHl_does .d
  | .ldAtHlE => storeAtHl_does .e
  | .ldAtHlH => storeAtHl_does .h
  | .ldAtHlL => storeAtHl_does .l
  | .ldAtHlA => storeAtHl_does .a
  | .ldAtHlN8 n => storeImm_does n
  | .ldAAtBc => loadA_does .bc
  | .ldAAtDe => loadA_does .de
  | .ldAtBcA => storeA_does .bc
  | .ldAtDeA => storeA_does .de
  | .ldAAtN16 n => loadAbs_does n
  | .ldAtN16A n => storeAbs_does n
  | .ldhAtN8A n => storeHigh_does n
  | .ldhAAtN8 n => loadHigh_does n
  | .ldAtCA => storeHighC_does
  | .ldAAtC => loadHighC_does
  | .ldAtHlIncA => storeA_does .hlInc
  | .ldAtHlDecA => storeA_does .hlDec
  | .ldAAtHlInc => loadA_does .hlInc
  | .ldAAtHlDec => loadA_does .hlDec
  | .ldBcN16 n => loadPair_does .bc n
  | .ldDeN16 n => loadPair_does .de n
  | .ldHlN16 n => loadPair_does .hl n
  | .ldSpN16 n => loadPair_does .sp n
  | .ldAtN16Sp n => storeSp_does n
  | .ldSpHl => loadSp_does
  | .pushBc => pushPair_does .bc
  | .pushDe => pushPair_does .de
  | .pushHl => pushPair_does .hl
  | .pushAf => pushPair_does .af
  | .popBc => popPair_does .bc
  | .popDe => popPair_does .de
  | .popHl => popPair_does .hl
  | .popAf => popPair_does .af
  | .addAB => aluA_does .add (.reg .b)
  | .addAC => aluA_does .add (.reg .c)
  | .addAD => aluA_does .add (.reg .d)
  | .addAE => aluA_does .add (.reg .e)
  | .addAH => aluA_does .add (.reg .h)
  | .addAL => aluA_does .add (.reg .l)
  | .addAAtHl => aluA_does .add .atHl
  | .addAA => aluA_does .add (.reg .a)
  | .addAN8 n => aluA_does .add (.imm n)
  | .adcAB => aluA_does .adc (.reg .b)
  | .adcAC => aluA_does .adc (.reg .c)
  | .adcAD => aluA_does .adc (.reg .d)
  | .adcAE => aluA_does .adc (.reg .e)
  | .adcAH => aluA_does .adc (.reg .h)
  | .adcAL => aluA_does .adc (.reg .l)
  | .adcAAtHl => aluA_does .adc .atHl
  | .adcAA => aluA_does .adc (.reg .a)
  | .adcAN8 n => aluA_does .adc (.imm n)
  | .subB => aluA_does .sub (.reg .b)
  | .subC => aluA_does .sub (.reg .c)
  | .subD => aluA_does .sub (.reg .d)
  | .subE => aluA_does .sub (.reg .e)
  | .subH => aluA_does .sub (.reg .h)
  | .subL => aluA_does .sub (.reg .l)
  | .subAtHl => aluA_does .sub .atHl
  | .subA => aluA_does .sub (.reg .a)
  | .subN8 n => aluA_does .sub (.imm n)
  | .sbcAB => aluA_does .sbc (.reg .b)
  | .sbcAC => aluA_does .sbc (.reg .c)
  | .sbcAD => aluA_does .sbc (.reg .d)
  | .sbcAE => aluA_does .sbc (.reg .e)
  | .sbcAH => aluA_does .sbc (.reg .h)
  | .sbcAL => aluA_does .sbc (.reg .l)
  | .sbcAAtHl => aluA_does .sbc .atHl
  | .sbcAA => aluA_does .sbc (.reg .a)
  | .sbcAN8 n => aluA_does .sbc (.imm n)
  | .andB => aluA_does .and (.reg .b)
  | .andC => aluA_does .and (.reg .c)
  | .andD => aluA_does .and (.reg .d)
  | .andE => aluA_does .and (.reg .e)
  | .andH => aluA_does .and (.reg .h)
  | .andL => aluA_does .and (.reg .l)
  | .andAtHl => aluA_does .and .atHl
  | .andA => aluA_does .and (.reg .a)
  | .andN8 n => aluA_does .and (.imm n)
  | .xorB => aluA_does .xor (.reg .b)
  | .xorC => aluA_does .xor (.reg .c)
  | .xorD => aluA_does .xor (.reg .d)
  | .xorE => aluA_does .xor (.reg .e)
  | .xorH => aluA_does .xor (.reg .h)
  | .xorL => aluA_does .xor (.reg .l)
  | .xorAtHl => aluA_does .xor .atHl
  | .xorA => aluA_does .xor (.reg .a)
  | .xorN8 n => aluA_does .xor (.imm n)
  | .orB => aluA_does .or (.reg .b)
  | .orC => aluA_does .or (.reg .c)
  | .orD => aluA_does .or (.reg .d)
  | .orE => aluA_does .or (.reg .e)
  | .orH => aluA_does .or (.reg .h)
  | .orL => aluA_does .or (.reg .l)
  | .orAtHl => aluA_does .or .atHl
  | .orA => aluA_does .or (.reg .a)
  | .orN8 n => aluA_does .or (.imm n)
  | .cpB => aluA_does .cp (.reg .b)
  | .cpC => aluA_does .cp (.reg .c)
  | .cpD => aluA_does .cp (.reg .d)
  | .cpE => aluA_does .cp (.reg .e)
  | .cpH => aluA_does .cp (.reg .h)
  | .cpL => aluA_does .cp (.reg .l)
  | .cpAtHl => aluA_does .cp .atHl
  | .cpA => aluA_does .cp (.reg .a)
  | .cpN8 n => aluA_does .cp (.imm n)
  | .incB => incReg_does .b
  | .incC => incReg_does .c
  | .incD => incReg_does .d
  | .incE => incReg_does .e
  | .incH => incReg_does .h
  | .incL => incReg_does .l
  | .incA => incReg_does .a
  | .decB => decReg_does .b
  | .decC => decReg_does .c
  | .decD => decReg_does .d
  | .decE => decReg_does .e
  | .decH => decReg_does .h
  | .decL => decReg_does .l
  | .decA => decReg_does .a
  | .incAtHl => incAtHl_does
  | .decAtHl => decAtHl_does
  | .daa => daaA_does
  | .cpl => cplA_does
  | .scf => setCarry_does
  | .ccf => flipCarry_does
  | .incBc => incPair_does .bc
  | .incDe => incPair_does .de
  | .incHl => incPair_does .hl
  | .incSp => incPair_does .sp
  | .decBc => decPair_does .bc
  | .decDe => decPair_does .de
  | .decHl => decPair_does .hl
  | .decSp => decPair_does .sp
  | .addHlBc => addHl_does .bc
  | .addHlDe => addHl_does .de
  | .addHlHl => addHl_does .hl
  | .addHlSp => addHl_does .sp
  | .addSpE8 e => addSp_does e
  | .ldHlSpE8 e => loadHlSp_does e
  | .jpN16 n => jump_does n
  | .jpNzN16 n => jumpIf_does .nz n
  | .jpZN16 n => jumpIf_does .z n
  | .jpNcN16 n => jumpIf_does .nc n
  | .jpCN16 n => jumpIf_does .c n
  | .jpHl => jumpHl_does
  | .jrE8 e => jumpRel_does e
  | .jrNzE8 e => jumpRelIf_does .nz e
  | .jrZE8 e => jumpRelIf_does .z e
  | .jrNcE8 e => jumpRelIf_does .nc e
  | .jrCE8 e => jumpRelIf_does .c e
  | .callN16 n => call_does n
  | .callNzN16 n => callIf_does .nz n
  | .callZN16 n => callIf_does .z n
  | .callNcN16 n => callIf_does .nc n
  | .callCN16 n => callIf_does .c n
  | .ret => ret_does
  | .retNz => retIf_does .nz
  | .retZ => retIf_does .z
  | .retNc => retIf_does .nc
  | .retC => retIf_does .c
  | .reti => retInterrupt_does
  | .rst00 => restart_does 0x00#16
  | .rst08 => restart_does 0x08#16
  | .rst10 => restart_does 0x10#16
  | .rst18 => restart_does 0x18#16
  | .rst20 => restart_does 0x20#16
  | .rst28 => restart_does 0x28#16
  | .rst30 => restart_does 0x30#16
  | .rst38 => restart_does 0x38#16
  | .nop => noOperation_does
  | .halt => enterHalt_does
  | .stop _ => enterStop_does
  | .ei => enableInterrupts_does
  | .di => disableInterrupts_does
  | .undefD3 => undefinedOpcode_does 0xD3#8
  | .undefDB => undefinedOpcode_does 0xDB#8
  | .undefDD => undefinedOpcode_does 0xDD#8
  | .undefE3 => undefinedOpcode_does 0xE3#8
  | .undefE4 => undefinedOpcode_does 0xE4#8
  | .undefEB => undefinedOpcode_does 0xEB#8
  | .undefEC => undefinedOpcode_does 0xEC#8
  | .undefED => undefinedOpcode_does 0xED#8
  | .undefF4 => undefinedOpcode_does 0xF4#8
  | .undefFC => undefinedOpcode_does 0xFC#8
  | .undefFD => undefinedOpcode_does 0xFD#8
  | .rlca => rotateA_does .rlc
  | .rrca => rotateA_does .rrc
  | .rla => rotateA_does .rl
  | .rra => rotateA_does .rr
  | .rlcB => shiftTarget_does .rlc (.reg .b)
  | .rlcC => shiftTarget_does .rlc (.reg .c)
  | .rlcD => shiftTarget_does .rlc (.reg .d)
  | .rlcE => shiftTarget_does .rlc (.reg .e)
  | .rlcH => shiftTarget_does .rlc (.reg .h)
  | .rlcL => shiftTarget_does .rlc (.reg .l)
  | .rlcAtHl => shiftTarget_does .rlc .atHl
  | .rlcA => shiftTarget_does .rlc (.reg .a)
  | .rrcB => shiftTarget_does .rrc (.reg .b)
  | .rrcC => shiftTarget_does .rrc (.reg .c)
  | .rrcD => shiftTarget_does .rrc (.reg .d)
  | .rrcE => shiftTarget_does .rrc (.reg .e)
  | .rrcH => shiftTarget_does .rrc (.reg .h)
  | .rrcL => shiftTarget_does .rrc (.reg .l)
  | .rrcAtHl => shiftTarget_does .rrc .atHl
  | .rrcA => shiftTarget_does .rrc (.reg .a)
  | .rlB => shiftTarget_does .rl (.reg .b)
  | .rlC => shiftTarget_does .rl (.reg .c)
  | .rlD => shiftTarget_does .rl (.reg .d)
  | .rlE => shiftTarget_does .rl (.reg .e)
  | .rlH => shiftTarget_does .rl (.reg .h)
  | .rlL => shiftTarget_does .rl (.reg .l)
  | .rlAtHl => shiftTarget_does .rl .atHl
  | .rlA => shiftTarget_does .rl (.reg .a)
  | .rrB => shiftTarget_does .rr (.reg .b)
  | .rrC => shiftTarget_does .rr (.reg .c)
  | .rrD => shiftTarget_does .rr (.reg .d)
  | .rrE => shiftTarget_does .rr (.reg .e)
  | .rrH => shiftTarget_does .rr (.reg .h)
  | .rrL => shiftTarget_does .rr (.reg .l)
  | .rrAtHl => shiftTarget_does .rr .atHl
  | .rrA => shiftTarget_does .rr (.reg .a)
  | .slaB => shiftTarget_does .sla (.reg .b)
  | .slaC => shiftTarget_does .sla (.reg .c)
  | .slaD => shiftTarget_does .sla (.reg .d)
  | .slaE => shiftTarget_does .sla (.reg .e)
  | .slaH => shiftTarget_does .sla (.reg .h)
  | .slaL => shiftTarget_does .sla (.reg .l)
  | .slaAtHl => shiftTarget_does .sla .atHl
  | .slaA => shiftTarget_does .sla (.reg .a)
  | .sraB => shiftTarget_does .sra (.reg .b)
  | .sraC => shiftTarget_does .sra (.reg .c)
  | .sraD => shiftTarget_does .sra (.reg .d)
  | .sraE => shiftTarget_does .sra (.reg .e)
  | .sraH => shiftTarget_does .sra (.reg .h)
  | .sraL => shiftTarget_does .sra (.reg .l)
  | .sraAtHl => shiftTarget_does .sra .atHl
  | .sraA => shiftTarget_does .sra (.reg .a)
  | .swapB => shiftTarget_does .swap (.reg .b)
  | .swapC => shiftTarget_does .swap (.reg .c)
  | .swapD => shiftTarget_does .swap (.reg .d)
  | .swapE => shiftTarget_does .swap (.reg .e)
  | .swapH => shiftTarget_does .swap (.reg .h)
  | .swapL => shiftTarget_does .swap (.reg .l)
  | .swapAtHl => shiftTarget_does .swap .atHl
  | .swapA => shiftTarget_does .swap (.reg .a)
  | .srlB => shiftTarget_does .srl (.reg .b)
  | .srlC => shiftTarget_does .srl (.reg .c)
  | .srlD => shiftTarget_does .srl (.reg .d)
  | .srlE => shiftTarget_does .srl (.reg .e)
  | .srlH => shiftTarget_does .srl (.reg .h)
  | .srlL => shiftTarget_does .srl (.reg .l)
  | .srlAtHl => shiftTarget_does .srl .atHl
  | .srlA => shiftTarget_does .srl (.reg .a)
  | .bit0B => testBit_does 0 (.reg .b)
  | .bit0C => testBit_does 0 (.reg .c)
  | .bit0D => testBit_does 0 (.reg .d)
  | .bit0E => testBit_does 0 (.reg .e)
  | .bit0H => testBit_does 0 (.reg .h)
  | .bit0L => testBit_does 0 (.reg .l)
  | .bit0AtHl => testBit_does 0 .atHl
  | .bit0A => testBit_does 0 (.reg .a)
  | .bit1B => testBit_does 1 (.reg .b)
  | .bit1C => testBit_does 1 (.reg .c)
  | .bit1D => testBit_does 1 (.reg .d)
  | .bit1E => testBit_does 1 (.reg .e)
  | .bit1H => testBit_does 1 (.reg .h)
  | .bit1L => testBit_does 1 (.reg .l)
  | .bit1AtHl => testBit_does 1 .atHl
  | .bit1A => testBit_does 1 (.reg .a)
  | .bit2B => testBit_does 2 (.reg .b)
  | .bit2C => testBit_does 2 (.reg .c)
  | .bit2D => testBit_does 2 (.reg .d)
  | .bit2E => testBit_does 2 (.reg .e)
  | .bit2H => testBit_does 2 (.reg .h)
  | .bit2L => testBit_does 2 (.reg .l)
  | .bit2AtHl => testBit_does 2 .atHl
  | .bit2A => testBit_does 2 (.reg .a)
  | .bit3B => testBit_does 3 (.reg .b)
  | .bit3C => testBit_does 3 (.reg .c)
  | .bit3D => testBit_does 3 (.reg .d)
  | .bit3E => testBit_does 3 (.reg .e)
  | .bit3H => testBit_does 3 (.reg .h)
  | .bit3L => testBit_does 3 (.reg .l)
  | .bit3AtHl => testBit_does 3 .atHl
  | .bit3A => testBit_does 3 (.reg .a)
  | .bit4B => testBit_does 4 (.reg .b)
  | .bit4C => testBit_does 4 (.reg .c)
  | .bit4D => testBit_does 4 (.reg .d)
  | .bit4E => testBit_does 4 (.reg .e)
  | .bit4H => testBit_does 4 (.reg .h)
  | .bit4L => testBit_does 4 (.reg .l)
  | .bit4AtHl => testBit_does 4 .atHl
  | .bit4A => testBit_does 4 (.reg .a)
  | .bit5B => testBit_does 5 (.reg .b)
  | .bit5C => testBit_does 5 (.reg .c)
  | .bit5D => testBit_does 5 (.reg .d)
  | .bit5E => testBit_does 5 (.reg .e)
  | .bit5H => testBit_does 5 (.reg .h)
  | .bit5L => testBit_does 5 (.reg .l)
  | .bit5AtHl => testBit_does 5 .atHl
  | .bit5A => testBit_does 5 (.reg .a)
  | .bit6B => testBit_does 6 (.reg .b)
  | .bit6C => testBit_does 6 (.reg .c)
  | .bit6D => testBit_does 6 (.reg .d)
  | .bit6E => testBit_does 6 (.reg .e)
  | .bit6H => testBit_does 6 (.reg .h)
  | .bit6L => testBit_does 6 (.reg .l)
  | .bit6AtHl => testBit_does 6 .atHl
  | .bit6A => testBit_does 6 (.reg .a)
  | .bit7B => testBit_does 7 (.reg .b)
  | .bit7C => testBit_does 7 (.reg .c)
  | .bit7D => testBit_does 7 (.reg .d)
  | .bit7E => testBit_does 7 (.reg .e)
  | .bit7H => testBit_does 7 (.reg .h)
  | .bit7L => testBit_does 7 (.reg .l)
  | .bit7AtHl => testBit_does 7 .atHl
  | .bit7A => testBit_does 7 (.reg .a)
  | .res0B => clearBit_does 0 (.reg .b)
  | .res0C => clearBit_does 0 (.reg .c)
  | .res0D => clearBit_does 0 (.reg .d)
  | .res0E => clearBit_does 0 (.reg .e)
  | .res0H => clearBit_does 0 (.reg .h)
  | .res0L => clearBit_does 0 (.reg .l)
  | .res0AtHl => clearBit_does 0 .atHl
  | .res0A => clearBit_does 0 (.reg .a)
  | .res1B => clearBit_does 1 (.reg .b)
  | .res1C => clearBit_does 1 (.reg .c)
  | .res1D => clearBit_does 1 (.reg .d)
  | .res1E => clearBit_does 1 (.reg .e)
  | .res1H => clearBit_does 1 (.reg .h)
  | .res1L => clearBit_does 1 (.reg .l)
  | .res1AtHl => clearBit_does 1 .atHl
  | .res1A => clearBit_does 1 (.reg .a)
  | .res2B => clearBit_does 2 (.reg .b)
  | .res2C => clearBit_does 2 (.reg .c)
  | .res2D => clearBit_does 2 (.reg .d)
  | .res2E => clearBit_does 2 (.reg .e)
  | .res2H => clearBit_does 2 (.reg .h)
  | .res2L => clearBit_does 2 (.reg .l)
  | .res2AtHl => clearBit_does 2 .atHl
  | .res2A => clearBit_does 2 (.reg .a)
  | .res3B => clearBit_does 3 (.reg .b)
  | .res3C => clearBit_does 3 (.reg .c)
  | .res3D => clearBit_does 3 (.reg .d)
  | .res3E => clearBit_does 3 (.reg .e)
  | .res3H => clearBit_does 3 (.reg .h)
  | .res3L => clearBit_does 3 (.reg .l)
  | .res3AtHl => clearBit_does 3 .atHl
  | .res3A => clearBit_does 3 (.reg .a)
  | .res4B => clearBit_does 4 (.reg .b)
  | .res4C => clearBit_does 4 (.reg .c)
  | .res4D => clearBit_does 4 (.reg .d)
  | .res4E => clearBit_does 4 (.reg .e)
  | .res4H => clearBit_does 4 (.reg .h)
  | .res4L => clearBit_does 4 (.reg .l)
  | .res4AtHl => clearBit_does 4 .atHl
  | .res4A => clearBit_does 4 (.reg .a)
  | .res5B => clearBit_does 5 (.reg .b)
  | .res5C => clearBit_does 5 (.reg .c)
  | .res5D => clearBit_does 5 (.reg .d)
  | .res5E => clearBit_does 5 (.reg .e)
  | .res5H => clearBit_does 5 (.reg .h)
  | .res5L => clearBit_does 5 (.reg .l)
  | .res5AtHl => clearBit_does 5 .atHl
  | .res5A => clearBit_does 5 (.reg .a)
  | .res6B => clearBit_does 6 (.reg .b)
  | .res6C => clearBit_does 6 (.reg .c)
  | .res6D => clearBit_does 6 (.reg .d)
  | .res6E => clearBit_does 6 (.reg .e)
  | .res6H => clearBit_does 6 (.reg .h)
  | .res6L => clearBit_does 6 (.reg .l)
  | .res6AtHl => clearBit_does 6 .atHl
  | .res6A => clearBit_does 6 (.reg .a)
  | .res7B => clearBit_does 7 (.reg .b)
  | .res7C => clearBit_does 7 (.reg .c)
  | .res7D => clearBit_does 7 (.reg .d)
  | .res7E => clearBit_does 7 (.reg .e)
  | .res7H => clearBit_does 7 (.reg .h)
  | .res7L => clearBit_does 7 (.reg .l)
  | .res7AtHl => clearBit_does 7 .atHl
  | .res7A => clearBit_does 7 (.reg .a)
  | .set0B => raiseBit_does 0 (.reg .b)
  | .set0C => raiseBit_does 0 (.reg .c)
  | .set0D => raiseBit_does 0 (.reg .d)
  | .set0E => raiseBit_does 0 (.reg .e)
  | .set0H => raiseBit_does 0 (.reg .h)
  | .set0L => raiseBit_does 0 (.reg .l)
  | .set0AtHl => raiseBit_does 0 .atHl
  | .set0A => raiseBit_does 0 (.reg .a)
  | .set1B => raiseBit_does 1 (.reg .b)
  | .set1C => raiseBit_does 1 (.reg .c)
  | .set1D => raiseBit_does 1 (.reg .d)
  | .set1E => raiseBit_does 1 (.reg .e)
  | .set1H => raiseBit_does 1 (.reg .h)
  | .set1L => raiseBit_does 1 (.reg .l)
  | .set1AtHl => raiseBit_does 1 .atHl
  | .set1A => raiseBit_does 1 (.reg .a)
  | .set2B => raiseBit_does 2 (.reg .b)
  | .set2C => raiseBit_does 2 (.reg .c)
  | .set2D => raiseBit_does 2 (.reg .d)
  | .set2E => raiseBit_does 2 (.reg .e)
  | .set2H => raiseBit_does 2 (.reg .h)
  | .set2L => raiseBit_does 2 (.reg .l)
  | .set2AtHl => raiseBit_does 2 .atHl
  | .set2A => raiseBit_does 2 (.reg .a)
  | .set3B => raiseBit_does 3 (.reg .b)
  | .set3C => raiseBit_does 3 (.reg .c)
  | .set3D => raiseBit_does 3 (.reg .d)
  | .set3E => raiseBit_does 3 (.reg .e)
  | .set3H => raiseBit_does 3 (.reg .h)
  | .set3L => raiseBit_does 3 (.reg .l)
  | .set3AtHl => raiseBit_does 3 .atHl
  | .set3A => raiseBit_does 3 (.reg .a)
  | .set4B => raiseBit_does 4 (.reg .b)
  | .set4C => raiseBit_does 4 (.reg .c)
  | .set4D => raiseBit_does 4 (.reg .d)
  | .set4E => raiseBit_does 4 (.reg .e)
  | .set4H => raiseBit_does 4 (.reg .h)
  | .set4L => raiseBit_does 4 (.reg .l)
  | .set4AtHl => raiseBit_does 4 .atHl
  | .set4A => raiseBit_does 4 (.reg .a)
  | .set5B => raiseBit_does 5 (.reg .b)
  | .set5C => raiseBit_does 5 (.reg .c)
  | .set5D => raiseBit_does 5 (.reg .d)
  | .set5E => raiseBit_does 5 (.reg .e)
  | .set5H => raiseBit_does 5 (.reg .h)
  | .set5L => raiseBit_does 5 (.reg .l)
  | .set5AtHl => raiseBit_does 5 .atHl
  | .set5A => raiseBit_does 5 (.reg .a)
  | .set6B => raiseBit_does 6 (.reg .b)
  | .set6C => raiseBit_does 6 (.reg .c)
  | .set6D => raiseBit_does 6 (.reg .d)
  | .set6E => raiseBit_does 6 (.reg .e)
  | .set6H => raiseBit_does 6 (.reg .h)
  | .set6L => raiseBit_does 6 (.reg .l)
  | .set6AtHl => raiseBit_does 6 .atHl
  | .set6A => raiseBit_does 6 (.reg .a)
  | .set7B => raiseBit_does 7 (.reg .b)
  | .set7C => raiseBit_does 7 (.reg .c)
  | .set7D => raiseBit_does 7 (.reg .d)
  | .set7E => raiseBit_does 7 (.reg .e)
  | .set7H => raiseBit_does 7 (.reg .h)
  | .set7L => raiseBit_does 7 (.reg .l)
  | .set7AtHl => raiseBit_does 7 .atHl
  | .set7A => raiseBit_does 7 (.reg .a)

/-- What an instruction answers is reached by `Does`. -/
theorem exec_next {i : Instr} {s t : State} (h : exec i s = .next t) : ∃ k ≤ 1, Does k s t := by
  obtain ⟨u, e, d⟩ := exec_does i s
  rw [e] at h
  cases h
  exact d

end Sys2Proof.Machine
end

