-- ==== Sys2Proof/Laws/HostOps.lean ====
section
/-! SUPPORT. Sys2Proof/Laws/HostOps.lean: each field after saving and after restoring the state. -/

namespace Sys2Proof.Machine

@[simp] theorem State.save_cpu (s : State) : s.save.cpu = s.cpu := rfl
@[simp] theorem State.save_ie (s : State) : s.save.ie = s.ie := rfl
@[simp] theorem State.save_intf (s : State) : s.save.intf = s.intf := rfl
@[simp] theorem State.save_p1 (s : State) : s.save.p1 = s.p1 := rfl
@[simp] theorem State.save_timer (s : State) : s.save.timer = s.timer := rfl
@[simp] theorem State.save_serial (s : State) : s.save.serial = s.serial := rfl
@[simp] theorem State.save_ppu (s : State) : s.save.ppu = s.ppu := rfl
@[simp] theorem State.save_apu (s : State) : s.save.apu = s.apu := rfl
@[simp] theorem State.save_cart (s : State) : s.save.cart = s.cart := rfl
@[simp] theorem State.save_vram (s : State) : s.save.vram = s.vram := rfl
@[simp] theorem State.save_wram (s : State) : s.save.wram = s.wram := rfl
@[simp] theorem State.save_oam (s : State) : s.save.oam = s.oam := rfl
@[simp] theorem State.save_hram (s : State) : s.save.hram = s.hram := rfl
@[simp] theorem State.save_buttons (s : State) : s.save.buttons = s.buttons := rfl
@[simp] theorem State.save_buttonsPrev (s : State) : s.save.buttonsPrev = s.buttonsPrev := rfl
@[simp] theorem State.save_stopRequested (s : State) : s.save.stopRequested = s.stopRequested := rfl
@[simp] theorem State.save_tCycles (s : State) : s.save.tCycles = s.tCycles := rfl

@[simp] theorem State.restore_cpu (s : State) (k : SavedState) : (s.restore k).cpu = k.cpu := rfl
@[simp] theorem State.restore_ie (s : State) (k : SavedState) : (s.restore k).ie = k.ie := rfl
@[simp] theorem State.restore_intf (s : State) (k : SavedState) : (s.restore k).intf = k.intf := rfl
@[simp] theorem State.restore_p1 (s : State) (k : SavedState) : (s.restore k).p1 = k.p1 := rfl
@[simp] theorem State.restore_timer (s : State) (k : SavedState) : (s.restore k).timer = k.timer := rfl
@[simp] theorem State.restore_serial (s : State) (k : SavedState) : (s.restore k).serial = k.serial := rfl
@[simp] theorem State.restore_ppu (s : State) (k : SavedState) : (s.restore k).ppu = k.ppu := rfl
@[simp] theorem State.restore_apu (s : State) (k : SavedState) : (s.restore k).apu = k.apu := rfl
@[simp] theorem State.restore_cart (s : State) (k : SavedState) : (s.restore k).cart = k.cart := rfl
@[simp] theorem State.restore_vram (s : State) (k : SavedState) : (s.restore k).vram = k.vram := rfl
@[simp] theorem State.restore_wram (s : State) (k : SavedState) : (s.restore k).wram = k.wram := rfl
@[simp] theorem State.restore_oam (s : State) (k : SavedState) : (s.restore k).oam = k.oam := rfl
@[simp] theorem State.restore_hram (s : State) (k : SavedState) : (s.restore k).hram = k.hram := rfl
@[simp] theorem State.restore_buttons (s : State) (k : SavedState) : (s.restore k).buttons = k.buttons := rfl
@[simp] theorem State.restore_buttonsPrev (s : State) (k : SavedState) : (s.restore k).buttonsPrev = k.buttonsPrev := rfl
@[simp] theorem State.restore_stopRequested (s : State) (k : SavedState) : (s.restore k).stopRequested = k.stopRequested := rfl
@[simp] theorem State.restore_tCycles (s : State) (k : SavedState) : (s.restore k).tCycles = k.tCycles := rfl
@[simp] theorem State.restore_params (s : State) (k : SavedState) : (s.restore k).params = s.params := rfl
@[simp] theorem State.restore_ended (s : State) (k : SavedState) : (s.restore k).ended = s.ended := rfl

end Sys2Proof.Machine
end

