-- ==== Sys2Proof/Laws/Ops.lean ====
section
/-! SUPPORT. Sys2Proof/Laws/Ops.lean: what the stack, taking an interrupt and returning from one do, each said once in
terms of bus writes to the state before (R14, R560, R813). -/

namespace Sys2Proof.Machine

open Sys2Proof.Config

/-- The same state around another processor. -/
def State.withCpu (s : State) (c : Cpu) : State := { s with cpu := c }

@[simp] theorem State.withCpu_cpu (s : State) (c : Cpu) : (s.withCpu c).cpu = c := rfl
@[simp] theorem State.withCpu_withCpu (s : State) (c d : Cpu) : (s.withCpu c).withCpu d = s.withCpu d := rfl
@[simp] theorem State.withCpu_self (s : State) : s.withCpu s.cpu = s := rfl

theorem dmaCopy_withCpu (n i : Nat) (base : Word) (s : State) (c : Cpu) :
    dmaCopy n i base (s.withCpu c) = (dmaCopy n i base s).withCpu c := by
  induction n generalizing i s with
  | zero => rfl
  | succ n ih => exact ih (i + 1) { s with oam := s.oam.write i (rawRead s (base + BitVec.ofNat 16 i)) }

theorem State.withCpu_stall {t u : State} {c : Cpu} (h : c.dmaStall = u.cpu.dmaStall) (e : t = u.withCpu c) :
    t = u.withCpu { c with dmaStall := u.cpu.dmaStall } := by
  rw [← h]
  exact e

/-- A bus write looks at nothing of the processor. -/
theorem memWrite_withCpu (s : State) (c : Cpu) (a : Word) (v : Byte) (h : c.dmaStall = s.cpu.dmaStall) :
    memWrite (s.withCpu c) a v = (memWrite s a v).withCpu { c with dmaStall := (memWrite s a v).cpu.dmaStall } := by
  unfold memWrite writeRegion
  split
  case h_7 =>
    unfold ioWrite
    split
    case h_17 =>
      have e := dmaCopy_withCpu dmaLength 0 (v ++ 0x00#8) { s with ppu := { s.ppu with dma := v } } c
      unfold dmaStart
      simp only
      exact congrArg (fun x : State => x.withCpu { x.cpu with dmaStall := dmaLength }) e
    all_goals exact State.withCpu_stall h rfl
  case h_2 =>
    by_cases b : s.ppu.blocked = true
    · rw [if_pos b, if_pos (show (s.withCpu c).ppu.blocked = true from b)]
      exact State.withCpu_stall h rfl
    · rw [if_neg b, if_neg (show ¬(s.withCpu c).ppu.blocked = true from b)]
      exact State.withCpu_stall h rfl
  case h_5 =>
    by_cases b : s.ppu.blocked = true
    · rw [if_pos b, if_pos (show (s.withCpu c).ppu.blocked = true from b)]
      exact State.withCpu_stall h rfl
    · rw [if_neg b, if_neg (show ¬(s.withCpu c).ppu.blocked = true from b)]
      exact State.withCpu_stall h rfl
  all_goals exact State.withCpu_stall h rfl

/-- One pushed byte. -/
theorem push_byte (s : State) (v : Byte) :
    memWrite (s.setSp (s.cpu.sp - 1#16)) (s.cpu.sp - 1#16) v =
      (memWrite s (s.cpu.sp - 1#16) v).withCpu
        { s.cpu with sp := s.cpu.sp - 1#16, dmaStall := (memWrite s (s.cpu.sp - 1#16) v).cpu.dmaStall } :=
  memWrite_withCpu s { s.cpu with sp := s.cpu.sp - 1#16 } _ v rfl

/-- The two pushed bytes, SP, and the stall a write may start (R14). -/
theorem push16_eq (s : State) (v : Word) :
    push16 s v =
      (memWrite (memWrite s (s.cpu.sp - 1#16) (hi v)) (s.cpu.sp - 2#16) (lo v)).withCpu
        { s.cpu with
          sp := s.cpu.sp - 2#16
          dmaStall := (memWrite (memWrite s (s.cpu.sp - 1#16) (hi v)) (s.cpu.sp - 2#16) (lo v)).cpu.dmaStall } := by
  have two : s.cpu.sp - 1#16 - 1#16 = s.cpu.sp - 2#16 := by bv_omega
  have first := push_byte s (hi v)
  have second := push_byte (memWrite (s.setSp (s.cpu.sp - 1#16)) (s.cpu.sp - 1#16) (hi v)) (lo v)
  have sp : (memWrite (s.setSp (s.cpu.sp - 1#16)) (s.cpu.sp - 1#16) (hi v)).cpu.sp = s.cpu.sp - 1#16 := by rw [first]; rfl
  unfold push16
  simp only [State.setSp_cpu_sp]
  rw [second, sp, two, first]
  generalize memWrite s (s.cpu.sp - 1#16) (hi v) = t
  have e := memWrite_withCpu t { s.cpu with sp := s.cpu.sp - 1#16, dmaStall := t.cpu.dmaStall } (s.cpu.sp - 2#16) (lo v) rfl
  rw [e]
  rfl

/-- A push looks at SP and nothing else of the processor. -/
theorem push16_withCpu (s : State) (c : Cpu) (v : Word) (h : c.dmaStall = s.cpu.dmaStall) :
    push16 (s.withCpu c) v =
      (memWrite (memWrite s (c.sp - 1#16) (hi v)) (c.sp - 2#16) (lo v)).withCpu
        { c with
          sp := c.sp - 2#16
          dmaStall := (memWrite (memWrite s (c.sp - 1#16) (hi v)) (c.sp - 2#16) (lo v)).cpu.dmaStall } := by
  rw [push16_eq, State.withCpu_cpu, memWrite_withCpu s c _ _ h]
  generalize memWrite s (c.sp - 1#16) (hi v) = t
  have e := memWrite_withCpu t { c with dmaStall := t.cpu.dmaStall } (c.sp - 2#16) (lo v) rfl
  rw [e]
  rfl

/-- The popped word and SP (R14). -/
theorem pop16_eq (s : State) :
    pop16 s = (hilo (memRead s (s.cpu.sp + 1#16)) (memRead s s.cpu.sp), s.setSp (s.cpu.sp + 2#16)) := by
  have two : s.cpu.sp + 1#16 + 1#16 = s.cpu.sp + 2#16 := by bv_omega
  show (hilo (memRead s (s.cpu.sp + 1#16)) (memRead s s.cpu.sp), s.setSp (s.cpu.sp + 1#16 + 1#16)) = _
  rw [two]

/-- Everything a return from an interrupt does (R560). -/
theorem returnFromInterrupt_eq (s : State) :
    returnFromInterrupt s =
      s.withCpu
        { s.cpu with
          pc := hilo (memRead s (s.cpu.sp + 1#16)) (memRead s s.cpu.sp)
          sp := s.cpu.sp + 2#16
          ime := true
          imeDelay := 0 } := by
  unfold returnFromInterrupt
  rw [pop16_eq]
  rfl

/-- Everything taking interrupt `k` does (R583, R813). -/
theorem takeInterrupt_eq (k : Nat) (s : State) :
    takeInterrupt k s =
      ((memWrite (memWrite s (s.cpu.sp - 1#16) (hi s.returnPc)) (s.cpu.sp - 2#16) (lo s.returnPc)).withCpu
        { s.cpu with
          sp := s.cpu.sp - 2#16
          pc := BitVec.ofNat 16 (0x40 + 8 * k)
          ime := false
          haltBug := false
          cycles := 5
          dmaStall :=
            (memWrite (memWrite s (s.cpu.sp - 1#16) (hi s.returnPc)) (s.cpu.sp - 2#16)
              (lo s.returnPc)).cpu.dmaStall }).acknowledge k := by
  have p := push16_withCpu s { s.cpu with haltBug := false } s.returnPc rfl
  unfold takeInterrupt
  simp only
  rw [show ({ s with cpu := { s.cpu with haltBug := false } } : State) = s.withCpu { s.cpu with haltBug := false }
    from rfl, p]
  rfl

end Sys2Proof.Machine
end

