-- ==== Sys2Proof/Laws/Step.lean ====
section
/-! SUPPORT. Sys2Proof/Laws/Step.lean: everything one step can do, and what a T-cycle leaves alone. -/

namespace Sys2Proof.Machine

open Sys2Proof

@[simp] theorem tick_cpu (s : State) : (tick s).cpu = s.cpu := by unfold tick; simp only; split <;> rfl
@[simp] theorem tick_ie (s : State) : (tick s).ie = s.ie := by unfold tick; simp only; split <;> rfl
@[simp] theorem tick_p1 (s : State) : (tick s).p1 = s.p1 := by unfold tick; simp only; split <;> rfl
@[simp] theorem tick_vram (s : State) : (tick s).vram = s.vram := by unfold tick; simp only; split <;> rfl
@[simp] theorem tick_wram (s : State) : (tick s).wram = s.wram := by unfold tick; simp only; split <;> rfl
@[simp] theorem tick_oam (s : State) : (tick s).oam = s.oam := by unfold tick; simp only; split <;> rfl
@[simp] theorem tick_hram (s : State) : (tick s).hram = s.hram := by unfold tick; simp only; split <;> rfl
@[simp] theorem tick_buttons (s : State) : (tick s).buttons = s.buttons := by unfold tick; simp only; split <;> rfl
@[simp] theorem tick_buttonsPrev (s : State) : (tick s).buttonsPrev = s.buttonsPrev := by
  unfold tick; simp only; split <;> rfl
@[simp] theorem tick_stopRequested (s : State) : (tick s).stopRequested = s.stopRequested := by
  unfold tick; simp only; split <;> rfl
@[simp] theorem tick_ended (s : State) : (tick s).ended = s.ended := by unfold tick; simp only; split <;> rfl
@[simp] theorem tick_params (s : State) : (tick s).params = s.params := by unfold tick; simp only; split <;> rfl
@[simp] theorem tick_cart (s : State) : (tick s).cart = s.cart.tick := by unfold tick; simp only; split <;> rfl
@[simp] theorem tick_tCycles (s : State) : (tick s).tCycles = s.tCycles + 1 := by unfold tick; simp only; split <;> rfl

/-- While the processor is not stopped a T-cycle moves the four devices (R860). -/
theorem tick_running {s : State} (h : s.cpu.stopped = false) :
    tick s = { tickDevices s with cart := s.cart.tick, tCycles := s.tCycles + 1 } := by
  unfold tick
  simp only [h]
  rfl

/-- While it is stopped a T-cycle reaches the cartridge alone (R584, R860). -/
theorem tick_stopped {s : State} (h : s.cpu.stopped = true) :
    tick s = { s with cart := s.cart.tick, tCycles := s.tCycles + 1 } := by
  unfold tick
  simp only [h]
  rfl

/-- A property every T-cycle keeps is kept by any number of them. -/
theorem advance_keeps {P : State → Prop} (h : ∀ s, P s → P (tick s)) (n : Nat) {s : State} (p : P s) :
    P (advance n s) := by
  induction n generalizing s with
  | zero => exact p
  | succ n ih => exact ih (h s p)

@[simp] theorem advance_cpu (n : Nat) (s : State) : (advance n s).cpu = s.cpu := by
  induction n generalizing s with
  | zero => rfl
  | succ n ih => rw [advance, ih, tick_cpu]

/-- A T-cycle reaches no sound register's wave RAM. -/
@[simp] theorem Apu.wave_tick (rate : Nat) (a : Apu) : (a.tick rate).wave = a.wave := by
  have seq : a.tickSequencer.wave = a.wave := by
    unfold Apu.tickSequencer
    split
    · unfold Apu.fsClock
      simp only
      have env : ∀ x : Apu, (x.clockEnvelopes).wave = x.wave := fun _ => rfl
      have len : ∀ x : Apu, (x.clockLengths).wave = x.wave := fun _ => rfl
      have step : ∀ x : Apu, (x.sweepStep).wave = x.wave := by
        intro x
        unfold Apu.sweepStep
        simp only
        split
        · split
          · rw [Apu.wave_sweepCheck]
            exact x.wave_sweepCheck
          · exact x.wave_sweepCheck
        · rfl
      have sweep : ∀ x : Apu, (x.clockSweep).wave = x.wave := by
        intro x
        unfold Apu.clockSweep
        split
        · rw [step]
        · rfl
      split_ifs <;> simp only [env, len, sweep]
    · rfl
  unfold Apu.tick
  split
  · exact seq
  · rfl

/-- A step that answers a next state starts in a run that is going on, and is a processor step followed by the
devices (R860). -/
theorem step_cases {s t : State} (h : step s = .next t) :
    s.running ∧ ∃ u, cpuStep s = .next u ∧ t = finishIteration u := by
  unfold step iteration at h
  split at h
  · cases h
  · cases h
  · next hf he =>
    split at h
    · next u hu => cases h; exact ⟨⟨hf, he⟩, u, hu, rfl⟩
    · cases h
    · cases h

/-- What one processor step can do (R800): wait for OAM DMA, idle, dispatch an interrupt, or run one instruction. -/
theorem cpuStep_cases {s u : State} (h : cpuStep s = .next u) :
    (0 < s.cpu.dmaStall ∧ u = { s with cpu := { s.cpu with dmaStall := s.cpu.dmaStall - 1, cycles := 1 } }) ∨
      (s.cpu.dmaStall = 0 ∧ s.pending = 0#5 ∧ u = { s with cpu := { s.cpu with cycles := 1 } }) ∨
      (s.cpu.dmaStall = 0 ∧ s.cpu.ime = true ∧ s.pending ≠ 0#5 ∧
        u = takeInterrupt (lowestPending s.pending) s.wake) ∨
      (s.cpu.dmaStall = 0 ∧ (s.cpu.ime = false ∨ s.pending = 0#5) ∧
        ∃ t, exec s.wake.fetched s.wake.afterFetch = .next t ∧ u = t.afterInstr) := by
  unfold cpuStep at h
  split at h
  · next hd => cases h; exact .inl ⟨hd, rfl⟩
  · next hd =>
    have hd : s.cpu.dmaStall = 0 := by omega
    split at h
    · next hp =>
      simp only [Bool.and_eq_true, beq_iff_eq] at hp
      cases h
      exact .inr (.inl ⟨hd, hp.2, rfl⟩)
    · split at h
      · next hi =>
        simp only [Bool.and_eq_true, bne_iff_ne] at hi
        cases h
        exact .inr (.inr (.inl ⟨hd, hi.1, hi.2, rfl⟩))
      · next hi =>
        simp only [Bool.and_eq_true, bne_iff_ne, not_and_or, Bool.not_eq_true, not_not] at hi
        unfold executeOne at h
        split at h
        · next t ht => cases h; exact .inr (.inr (.inr ⟨hd, hi, t, ht, rfl⟩))
        · cases h
        · cases h

/-- The end of an iteration is the processor's state after a fatal condition, else `4n` T-cycles and perhaps the mark
that the run has ended. -/
theorem finishIteration_cases (u : State) :
    (u.cpu.fatal.isSome = true ∧ finishIteration u = u) ∨
      (u.cpu.fatal = none ∧
        ∃ e, finishIteration u = { advance (Config.tPerM * u.cpu.cycles) u with ended := e }) := by
  unfold finishIteration
  split
  · next h => exact .inl ⟨h, rfl⟩
  · next h =>
    refine .inr ⟨by simpa using h, ?_⟩
    unfold State.checkEnd
    split
    · exact ⟨_, rfl⟩
    · split
      · exact ⟨_, rfl⟩
      · split
        · exact ⟨_, rfl⟩
        · exact ⟨_, rfl⟩

/-- A property that looks at nothing of the processor and is kept by bus writes and the divider's reset is kept by what
an instruction does. -/
theorem Does.keeps {P : State → Prop} (cpu : ∀ s c, P s → P { s with cpu := c })
    (write : ∀ s a v, P s → P (memWrite s a v)) (div : ∀ s, P s → P (divReset s)) {k : Nat} {s t : State}
    (d : Does k s t) (p : P s) : P t := by
  induction d with
  | regs s c _ _ _ _ _ _ _ _ => exact cpu s c p
  | write s a v => exact write s a v p
  | div s => exact div s p
  | stop s => exact cpu s _ p
  | halt s => exact cpu s _ p
  | bug s _ => exact cpu s _ p
  | ei s _ => exact cpu s _ p
  | ime s b => exact cpu s _ p
  | fatal s u => exact cpu s _ p
  | seq _ _ h g => exact g (h p)

/-- Such a property is kept by a whole step if a T-cycle, the acknowledgement of an interrupt and the mark that the run
has ended keep it too. -/
theorem step_keeps {P : State → Prop} (cpu : ∀ s c, P s → P { s with cpu := c })
    (write : ∀ s a v, P s → P (memWrite s a v)) (div : ∀ s, P s → P (divReset s))
    (ack : ∀ s k, P s → P (s.acknowledge k)) (tick : ∀ s, P s → P (tick s))
    (ended : ∀ s e, P s → P { s with ended := e }) {s t : State} (h : step s = .next t) (p : P s) : P t := by
  obtain ⟨-, u, hu, rfl⟩ := step_cases h
  have q : P u := by
    rcases cpuStep_cases hu with ⟨-, rfl⟩ | ⟨-, -, rfl⟩ | ⟨-, -, -, rfl⟩ | ⟨-, -, v, hv, rfl⟩
    · exact cpu s _ p
    · exact cpu s _ p
    · rw [takeInterrupt_eq]
      exact ack _ _ (cpu _ _ (write _ _ _ (write _ _ _ (cpu s _ p))))
    · obtain ⟨k, -, d⟩ := exec_next hv
      have pv : P v := d.keeps cpu write div (cpu _ _ (cpu s _ p))
      unfold State.afterInstr State.countDownIme
      split
      · exact pv
      · split
        · exact pv
        · split
          · exact cpu _ _ pv
          · exact cpu _ _ pv
  rcases finishIteration_cases u with ⟨-, e⟩ | ⟨-, e, he⟩
  · rw [e]; exact q
  · rw [he]; exact ended _ _ (advance_keeps tick _ q)

end Sys2Proof.Machine
end

