-- ==== Sys2Proof/Tests/Slice0.lean ====
section
/-! SUPPORT. Sys2Proof/Tests/Slice0.lean: well-formedness and decoding tests, single steps against 95_test_vectors.md and
the rules' own examples, and a witness for the hypotheses of every statement that has some. -/

namespace Sys2Proof.Tests

-- One theorem at a time: the kernel evaluations of many at once need more threads than memory allows.
set_option Elab.async false

open Sys2Proof Sys2Proof.Machine Sys2Proof.Config

/-! ## Small states -/

/-- Flags from the F byte. -/
def flags (b : Byte) : Flags := Flags.ofByte b

/-- Reset with pc in WRAM, where `INC A` stands, F = 0 and the LCD off. -/
def small : State :=
  { State.reset with
    cpu := { Cpu.reset with pc := 0xC000#16, f := flags 0x00#8 }
    ppu := { Ppu.reset with lcdc := 0x11#8, mode := .hblank }
    wram := [(0, 0x3C#8)] }

/-- `small` with A, F, BC, HL and SP. -/
def at4 (a f : Byte) (bc hl sp : Word) : State :=
  { small with
    cpu :=
      { small.cpu with
        a := a, f := flags f, b := bc.extractLsb' 8 8, c := bc.extractLsb' 0 8, h := hl.extractLsb' 8 8,
        l := hl.extractLsb' 0 8, sp := sp } }

/-- `small` with A and F. -/
def af (a f : Byte) : State := at4 a f 0x0013#16 0x014D#16 0xFFFE#16

/-- The state after one step of `s` with three bytes at pc; `s` itself if there is none. -/
def after (s : State) (b0 b1 b2 : Byte) : State :=
  match step (s.placeBytes (b0, b1, b2)) with
  | .next t => t
  | .fault _ => s
  | .refused _ => s

/-- A, F and the M-cycles after one step. -/
def afc (s : State) (b0 b1 b2 : Byte) : Byte × Byte × Nat :=
  let t := after s b0 b1 b2
  (t.cpu.a, t.cpu.f.toByte, t.cpu.cycles)

/-- pc, SP and the M-cycles after one step. -/
def flow (s : State) (b0 b1 b2 : Byte) : Word × Word × Nat :=
  let t := after s b0 b1 b2
  (t.cpu.pc, t.cpu.sp, t.cpu.cycles)

/-! ## Well-formedness: the one check refuses the prefix row alone (log 18) -/

theorem test_wf_refuses_prefix : (Instr.prefixCb 0x37#8).wf = false := by decide
theorem test_wf_accepts_others : (Instr.swapA.wf && Instr.undefD3.wf && (Instr.stop 0xFF#8).wf) = true := by decide

/-! ## Decoding: words written out from the encodings of 30_encoding.md -/

/-- `01 ddd sss` with D and (HL) (R302). -/
theorem test_decode_load : decode [0b01010110#8] = .ok (.ldDAtHl, []) := by decide
/-- `00 dd0 001 lo hi` with HL (R303, R419): the low byte comes first. -/
theorem test_decode_load_pair : decode [0b00100001#8, 0x34#8, 0x12#8] = .ok (.ldHlN16 0x1234#16, []) := by decide
/-- `11 qq0 001` and `11 qq0 101` with AF (R304). -/
theorem test_decode_stack : decode [0b11110001#8, 0b11110101#8] = .ok (.popAf, [0xF5#8]) := by decide
/-- `10 ooo sss` with XOR and L; `11 ooo 110 n8` with SBC (R306). -/
theorem test_decode_alu8 :
    decode [0b10101101#8] = .ok (.xorL, []) ∧ decode [0b11011110#8, 0x0F#8] = .ok (.sbcAN8 0x0F#8, []) := by decide
/-- `00 dd1 001` and `00 dd1 011` with DE and SP (R303). -/
theorem test_decode_alu16 :
    decode [0b00011001#8] = .ok (.addHlDe, []) ∧ decode [0b00111011#8] = .ok (.decSp, []) := by decide
/-- `CB 00 101 rrr` with (HL), `CB 10 bbb rrr` with 3 and E (R310). -/
theorem test_decode_rotate_bit :
    decode [0xCB#8, 0b00101110#8] = .ok (.sraAtHl, []) ∧ decode [0xCB#8, 0b10011011#8] = .ok (.res3E, []) := by decide
/-- `110 cc 010 lo hi` with NC, `11 ttt 111` with 7 (R305, R307). -/
theorem test_decode_control :
    decode [0b11010010#8, 0x00#8, 0x02#8] = .ok (.jpNcN16 0x0200#16, []) ∧ decode [0b11111111#8] = .ok (.rst38, []) := by
  decide
/-- `10 xx` keeps its second byte; F3 is `DI` (R584, R586). -/
theorem test_decode_system :
    decode [0x10#8, 0x00#8] = .ok (.stop 0x00#8, []) ∧ decode [0xF3#8] = .ok (.di, []) := by decide
/-- R340. -/
theorem test_decode_undefined : decode [0xFC#8] = .ok (.undefFC, []) := by decide
/-- Too few bytes are refused by name. -/
theorem test_decode_short :
    decode [] = .error .noOpcode ∧ decode [0xC3#8, 0x50#8] = .error (.missingOperand 0xC3#8) := by decide
/-- A prefixed row of the table has its prefix in the upper byte (log 17). -/
theorem test_table_word :
    decodeTableWord 16 0xCB37 = some .swapA ∧ decodeTableWord 8 0x3E = some (.ldAN8 0x00#8) := by decide

/-! ## Single steps -/

/-- `withFetchWord` at reset: the next step runs `SWAP A`, A = 0x01. -/
theorem test_with_fetch_word :
    (match step (State.reset.withFetchWord 16 0xCB37) with
      | .next t => t.cpu.a == 0x10#8 && t.cpu.pc == 0x0102#16
      | .fault _ => false
      | .refused _ => false) = true := by decide +kernel

/-- R400: C to B. -/
theorem test_ld_b_c : (after (at4 0x01#8 0x00#8 0x0077#16 0x014D#16 0xFFFE#16) 0x41#8 0 0).cpu.b = 0x77#8 := by
  decide +kernel
/-- R418 at HL = 0xC002 holding 0x33. -/
theorem test_ld_a_hl_dec :
    (fun t : State => (t.cpu.a, t.hl)) (after (at4 0x01#8 0x00#8 0x0000#16 0xC002#16 0xFFFE#16) 0x3A#8 0 0x33#8) =
      (0x33#8, 0xC001#16) := by decide +kernel
/-- R415: HL = 0xFFFF wraps after storing into IE. -/
theorem test_st_hl_inc_wraps :
    (fun t : State => (t.ie, t.hl)) (after (at4 0x55#8 0x00#8 0x0000#16 0xFFFF#16 0xFFFE#16) 0x22#8 0 0) =
      (0x55#8, 0x0000#16) := by decide +kernel
/-- R420: low byte first. -/
theorem test_st_sp :
    (fun t : State => (memRead t 0xC100#16, memRead t 0xC101#16, t.cpu.cycles))
      (after (at4 0x01#8 0x00#8 0x0000#16 0x0000#16 0xABCD#16) 0x08#8 0x00#8 0xC1#8) = (0xCD#8, 0xAB#8, 5) := by
  decide +kernel
/-- R422 at SP = 0x0001: the low byte of BC goes to IE. -/
theorem test_push_wraps :
    (fun t : State => (t.ie, t.cpu.sp)) (after (at4 0x01#8 0x00#8 0x0013#16 0x0000#16 0x0001#16) 0xC5#8 0 0) =
      (0x13#8, 0xFFFF#16) := by decide +kernel
/-- R424: the stack at 0xC001 holds FF 12. -/
theorem test_pop_af :
    afc (at4 0x01#8 0x00#8 0x0000#16 0x0000#16 0xC001#16) 0xF1#8 0xFF#8 0x12#8 = (0x12#8, 0xF0#8, 3) := by
  decide +kernel
/-- R451: A = 3A, `C6 C6`. -/
theorem test_add : afc (af 0x3A#8 0x00#8) 0xC6#8 0xC6#8 0 = (0x00#8, 0xB0#8, 2) := by decide +kernel
/-- R452: A = E1, carry, `CE 0F`. -/
theorem test_adc : afc (af 0xE1#8 0x10#8) 0xCE#8 0x0F#8 0 = (0xF1#8, 0x20#8, 2) := by decide +kernel
/-- R453: A = 3E, `D6 0F`. -/
theorem test_sub : afc (af 0x3E#8 0x00#8) 0xD6#8 0x0F#8 0 = (0x2F#8, 0x60#8, 2) := by decide +kernel
/-- R454: `SBC A,A` with the carry set. -/
theorem test_sbc : afc (af 0x3B#8 0x10#8) 0x9F#8 0 0 = (0xFF#8, 0x70#8, 1) := by decide +kernel
/-- R458: A = 3C, `FE 40`. -/
theorem test_cp : afc (af 0x3C#8 0x00#8) 0xFE#8 0x40#8 0 = (0x3C#8, 0x50#8, 2) := by decide +kernel
/-- R455: A = 5A, `E6 3F`. -/
theorem test_and : afc (af 0x5A#8 0x10#8) 0xE6#8 0x3F#8 0 = (0x1A#8, 0x20#8, 2) := by decide +kernel
/-- R456: `XOR A`. -/
theorem test_xor : afc (af 0x5A#8 0x10#8) 0xAF#8 0 0 = (0x00#8, 0x80#8, 1) := by decide +kernel
/-- R460: 0xFF wraps, the carry is kept. -/
theorem test_inc : afc (af 0xFF#8 0x10#8) 0x3C#8 0 0 = (0x00#8, 0xB0#8, 1) := by decide +kernel
/-- R465: A = 9A without flags. -/
theorem test_daa : afc (af 0x9A#8 0x00#8) 0x27#8 0 0 = (0x00#8, 0x90#8, 1) := by decide +kernel
/-- R468: H is cleared. -/
theorem test_ccf : afc (af 0x01#8 0x70#8) 0x3F#8 0 0 = (0x01#8, 0x00#8, 1) := by decide +kernel
/-- R492: HL = 8A23, BC = 0605. -/
theorem test_add_hl :
    (fun t : State => (t.hl, t.cpu.f.toByte)) (after (at4 0x01#8 0x00#8 0x0605#16 0x8A23#16 0xFFFE#16) 0x09#8 0 0) =
      (0x9028#16, 0x20#8) := by decide +kernel
/-- R493: SP = 00FF, e = -1. -/
theorem test_add_sp :
    (fun t : State => (t.cpu.sp, t.cpu.f.toByte))
      (after (at4 0x01#8 0x00#8 0x0000#16 0x0000#16 0x00FF#16) 0xE8#8 0xFF#8 0) = (0x00FE#16, 0x30#8) := by
  decide +kernel
/-- R512: A = 95 with the carry set. -/
theorem test_rla : afc (af 0x95#8 0x90#8) 0x17#8 0 0 = (0x2B#8, 0x10#8, 1) := by decide +kernel
/-- R520: A = 8A. -/
theorem test_sra : afc (af 0x8A#8 0x00#8) 0xCB#8 0x2F#8 0 = (0xC5#8, 0x00#8, 2) := by decide +kernel
/-- R525: bit 7 of H = 0x80. -/
theorem test_bit :
    afc (at4 0x01#8 0x00#8 0x0000#16 0x8000#16 0xFFFE#16) 0xCB#8 0x7C#8 0 = (0x01#8, 0x20#8, 2) := by decide +kernel
/-- R527: `SET 7,(HL)` on a zero byte, 4 M-cycles. -/
theorem test_set_at_hl :
    (fun t : State => (memRead t 0xC002#16, t.cpu.cycles))
      (after (at4 0x01#8 0x00#8 0x0000#16 0xC002#16 0xFFFE#16) 0xCB#8 0xFE#8 0x00#8) = (0x80#8, 4) := by decide +kernel
/-- R552: Z = 0, `JP Z` is not taken. -/
theorem test_jp_untaken : flow (af 0x01#8 0x00#8) 0xCA#8 0x00#8 0x02#8 = (0xC003#16, 0xFFFE#16, 3) := by decide +kernel
/-- R555: `20 FC` taken. -/
theorem test_jr_taken : flow (af 0x01#8 0x00#8) 0x20#8 0xFC#8 0 = (0xBFFE#16, 0xFFFE#16, 3) := by decide +kernel
/-- R556: the pushed address is that of the next instruction. -/
theorem test_call :
    (fun t : State => (memRead t 0xFFFD#16, memRead t 0xFFFC#16, t.cpu.pc, t.cpu.sp))
      (after (af 0x01#8 0x00#8) 0xCD#8 0x00#8 0x20#8) = (0xC0#8, 0x03#8, 0x2000#16, 0xFFFC#16) := by decide +kernel
/-- R560: the stack at 0xC001 holds 53 01. -/
theorem test_reti :
    (fun t : State => (t.cpu.pc, t.cpu.ime, t.cpu.cycles))
      (after (at4 0x01#8 0x00#8 0x0000#16 0x0000#16 0xC001#16) 0xD9#8 0x53#8 0x01#8) = (0x0153#16, true, 4) := by
  decide +kernel
/-- R561. -/
theorem test_rst : flow (af 0x01#8 0x00#8) 0xEF#8 0 0 = (0x0028#16, 0xFFFC#16, 4) := by decide +kernel
/-- R581, R583: with IME 0 and IE and IF = 1, `HALT` arms the bug; then `3E` takes itself as its operand. -/
theorem test_halt_bug :
    (fun t : State => (t.cpu.halted, t.cpu.haltBug)) (after { small with ie := 0x01#8 } 0x76#8 0 0) = (false, true) ∧
    (fun t : State => (t.cpu.a, t.cpu.pc))
      (after { small with ie := 0x01#8, cpu := { small.cpu with haltBug := true } } 0x3E#8 0x14#8 0) =
        (0x3E#8, 0xC001#16) := by decide +kernel
/-- R813: the timer's request (bit 2) goes to 0x0050, 5 M-cycles. -/
theorem test_dispatch :
    flow { small with ie := 0x04#8, intf := 0x04#5, cpu := { small.cpu with ime := true } } 0 0 0 =
      (0x0050#16, 0xFFFC#16, 5) := by decide +kernel
/-- R190: `LDH (0x46),A` copies and stalls for 160 M-cycles, of which none has passed. -/
theorem test_oam_dma :
    (fun t : State => (t.cpu.dmaStall, t.oam.read 0, t.ppu.dma)) (after (af 0xC0#8 0x00#8) 0xE0#8 0x46#8 0x77#8) =
      (160, 0xE0#8, 0xC0#8) := by decide +kernel
/-- R340: the fatal condition names the byte and the address, and no T-cycle passes. -/
theorem test_undefined :
    (fun t : State => (t.cpu.fatal, t.tCycles)) (after small 0xD3#8 0 0) =
      (some { op := 0xD3#8, addr := 0xC000#16 }, 0) := by decide +kernel

/-! ## Witnesses of the statements' hypotheses -/

theorem witness_decodeEncode : (Instr.ldAN8 0x05#8).wf = true ∧ Instr.res3E.wf = true ∧ Instr.undefFD.wf = true := by decide

theorem small_fetches : small.fetches := ⟨⟨rfl, rfl⟩, rfl, rfl, rfl, .inl rfl⟩

/-- `small` with the halt bug armed. -/
def bugged : State := { small with cpu := { small.cpu with haltBug := true } }

theorem witness_halt_bug : bugged.fetches ∧ bugged.cpu.haltBug = true := ⟨⟨⟨rfl, rfl⟩, rfl, rfl, rfl, .inl rfl⟩, rfl⟩

theorem witness_step_runs :
    small.fetches ∧
      decode [memRead small small.cpu.pc, memRead small small.operandPc, memRead small (small.operandPc + 1#16)] =
        .ok (.incA, [0x00#8, 0x00#8]) := ⟨small_fetches, by decide +kernel⟩

theorem witness_step_runs_bugged :
    bugged.fetches ∧
      decode [memRead bugged bugged.cpu.pc, memRead bugged bugged.operandPc,
          memRead bugged (bugged.operandPc + 1#16)] = .ok (.incA, [0x3C#8, 0x00#8]) :=
  ⟨witness_halt_bug.1, by decide +kernel⟩

theorem witness_subSbcAndCp :
    ∀ op ∈ [AluOp.sub, AluOp.sbc, AluOp.cp], op = .sub ∨ op = .sbc ∨ op = .cp := by decide

theorem witness_logic : ∀ op ∈ [AluOp.and, AluOp.xor, AluOp.or], op = .and ∨ op = .xor ∨ op = .or := by decide

theorem witness_aluLaws :
    ∀ src ∈ [Source.reg .b, Source.reg .l, Source.atHl, Source.imm 0xFF#8], src ≠ .reg .a := by decide

theorem witness_rotateAccumulator :
    ∀ i ∈ [Instr.rlca, Instr.rrca, Instr.rla, Instr.rra], i = .rlca ∨ i = .rrca ∨ i = .rla ∨ i = .rra := by decide

theorem witness_undefinedOpcodes :
    (0xD3#8, Instr.undefD3) ∈ Forms.undefinedRow ∧ (0xFD#8, Instr.undefFD) ∈ Forms.undefinedRow := by decide

/-- Each condition holds of some flags and fails of others. -/
theorem witness_conditions :
    conditionHolds .nz (flags 0x70#8) ∧ ¬conditionHolds .nz (flags 0x80#8) ∧
      conditionHolds .z (flags 0x80#8) ∧ ¬conditionHolds .z (flags 0x70#8) ∧
      conditionHolds .nc (flags 0xE0#8) ∧ ¬conditionHolds .nc (flags 0x10#8) ∧
      conditionHolds .c (flags 0x10#8) ∧ ¬conditionHolds .c (flags 0xE0#8) := by
  refine ⟨?_, ?_, ?_, ?_, ?_, ?_, ?_, ?_⟩ <;> unfold conditionHolds <;> decide

/-- A pending request at each end of the five bits; none when IE and IF share only bits 7-5. -/
theorem witness_halt :
    (∃ k < 5, (0x01#8 : Byte).getLsbD k = true ∧ (0x01#5 : BitVec 5).getLsbD k = true) ∧
      (∃ k < 5, (0xF0#8 : Byte).getLsbD k = true ∧ (0x10#5 : BitVec 5).getLsbD k = true) ∧
      (∀ k < 5, (0xE0#8 : Byte).getLsbD k = false ∨ (0x1F#5 : BitVec 5).getLsbD k = false) := by decide

/-- A state whose fatal condition is recorded, and one whose run has ended. -/
theorem witness_stepOutcomes :
    small.running ∧
      ({ small with cpu := { small.cpu with fatal := some { op := 0xD3#8, addr := 0xC000#16 } } } : State).cpu.fatal =
        some { op := 0xD3#8, addr := 0xC000#16 } ∧
      ({ small with ended := some .host } : State).cpu.fatal = none ∧
      ({ small with ended := some .profile } : State).ended = some .profile := ⟨⟨rfl, rfl⟩, rfl, rfl, rfl⟩

/-- `small` with IME set and the requests `r` enabled and pending. -/
def requested (r : BitVec 5) : State :=
  { small with ie := r.setWidth 8, intf := r, cpu := { small.cpu with ime := true } }

theorem witness_interruptDispatch :
    ∀ r ∈ [0x01#5, 0x10#5, 0x1F#5],
      (requested r).running ∧ (requested r).cpu.dmaStall = 0 ∧ (requested r).cpu.ime = true ∧
        (∃ k < 5, (requested r).ie.getLsbD k = true ∧ (requested r).intf.getLsbD k = true) := by
  unfold State.running; decide

/-- `small` in a stall of `n`, halted or stopped. -/
def idle (n : Nat) (halted stopped : Bool) : State :=
  { small with cpu := { small.cpu with dmaStall := n, halted := halted, stopped := stopped } }

theorem witness_idleSteps :
    (idle 1 false false).running ∧ 0 < (idle 1 false false).cpu.dmaStall ∧ 0 < (idle 160 true false).cpu.dmaStall ∧
      (idle 0 true false).cpu.halted = true ∧ (idle 0 false true).cpu.stopped = true ∧
      (∀ k < 5, (idle 0 true false).ie.getLsbD k = false ∨ (idle 0 true false).intf.getLsbD k = false) := by
  unfold State.running; decide

/-- The wake of a halted and of a stopped processor with IME 0, at both ends of the five requests (R582, R584). -/
def waking (r : BitVec 5) (halted stopped : Bool) : State :=
  { idle 0 halted stopped with ie := r.setWidth 8, intf := r }

theorem witness_idleSteps_wake :
    ((waking 0x01#5 true false).running ∧ (waking 0x01#5 true false).cpu.dmaStall = 0 ∧
        (waking 0x01#5 true false).cpu.halted = true ∧ (waking 0x01#5 true false).cpu.ime = false ∧
        ∃ k < 5, (waking 0x01#5 true false).ie.getLsbD k = true ∧ (waking 0x01#5 true false).intf.getLsbD k = true) ∧
      (waking 0x10#5 false true).cpu.stopped = true ∧
        ∃ k < 5, (waking 0x10#5 false true).ie.getLsbD k = true ∧ (waking 0x10#5 false true).intf.getLsbD k = true := by
  unfold State.running; decide

/-- R582: the waking step runs `INC A` at once. -/
theorem test_wake :
    (fun t : State => (t.cpu.halted, t.cpu.a)) (after (waking 0x01#5 true false) 0x3C#8 0 0) = (false, 0x02#8) := by
  decide +kernel

theorem small_memory : MemoryInv small := ⟨rfl, rfl, rfl, rfl, rfl, rfl, rfl⟩

theorem small_cpu : CpuInv small :=
  ⟨by decide, by decide, by decide, by decide, by decide⟩

theorem small_sound : ApuInv small.apu := by constructor <;> decide

theorem small_ports : SerialInv small.serial ∧ CartInv small.cart :=
  ⟨⟨by decide, by decide, by decide⟩, ⟨by decide, by decide, nofun⟩⟩

/-- The last T-cycle before the vertical blanking of a frame whose LCD is on. -/
def lastVisible : Ppu := { Ppu.reset with ly := 143#8, dot := 455, mode := .hblank, coincidence := false }

theorem rows_of_blank : Frame.blank.length = 144 ∧ ∀ r ∈ Frame.blank, r.length = 160 := by decide +kernel

theorem small_pipeline : PpuInv small.ppu :=
  ⟨by decide, by decide, by decide, by decide, by decide, by decide, by decide, rows_of_blank.1, rows_of_blank.2⟩

/-- For `FrameTiming` and `StepKeepsPipeline`: at the first dot of a frame and at the last visible one. -/
theorem witness_frameTiming :
    PpuInv Ppu.reset ∧ Ppu.reset.lcdOn = true ∧ PpuInv lastVisible ∧ lastVisible.lcdOn = true :=
  ⟨⟨by decide, by decide, by decide, by decide, by decide, by decide, by decide, rows_of_blank.1, rows_of_blank.2⟩,
    by decide,
    ⟨by decide, by decide, by decide, by decide, by decide, by decide, by decide, rows_of_blank.1, rows_of_blank.2⟩,
    by decide⟩

/-- The step answers a next state, with a fatal condition recorded or not as `fatal` says. -/
def stepsTo (fatal : Bool) (r : Result) : Bool :=
  match r with
  | .next t => t.cpu.fatal.isSome == fatal
  | .fault _ => false
  | .refused _ => false

theorem next_of_stepsTo (fatal : Bool) (r : Result) (h : stepsTo fatal r = true) :
    ∃ t, r = .next t ∧ t.cpu.fatal.isSome = fatal := by
  cases r with
  | next t => exact ⟨t, rfl, by simpa [stepsTo] using h⟩
  | fault _ => simp [stepsTo] at h
  | refused _ => simp [stepsTo] at h

/-- A step, its state meeting every invariant, that records no fatal condition. -/
theorem witness_stepKeeps :
    MemoryInv small ∧ CpuInv small ∧ PpuInv small.ppu ∧ ApuInv small.apu ∧ SerialInv small.serial ∧
      CartInv small.cart ∧ ∃ t, step small = .next t ∧ t.cpu.fatal.isSome = false :=
  ⟨small_memory, small_cpu, small_pipeline, small_sound, small_ports.1, small_ports.2,
    next_of_stepsTo false (step small) (by decide +kernel)⟩

/-- And a step that records one. -/
theorem witness_stepKeepsImage_fatal :
    ∃ t, step { small with wram := [(0, 0xD3#8)] } = .next t ∧ t.cpu.fatal.isSome = true :=
  next_of_stepsTo true _ (by decide +kernel)

/-- `small` at an `EI`, and `small` with its effect due at the end of this instruction. -/
def atEi : State := { small with wram := [(0, 0xFB#8)] }
def eiDue : State := { small with cpu := { small.cpu with imeDelay := 1 } }

theorem witness_eiLatency :
    (atEi.fetches ∧ memRead atEi atEi.cpu.pc = 0xFB#8 ∧ atEi.cpu.ime = false ∧ atEi.cpu.imeDelay = 0) ∧
      eiDue.fetches ∧ eiDue.cpu.imeDelay = 1 ∧ memRead eiDue eiDue.cpu.pc ≠ 0xF3#8 ∧
      (∃ t, cpuStep eiDue = .next t ∧ t.cpu.fatal.isSome = false) :=
  ⟨⟨⟨⟨rfl, rfl⟩, rfl, rfl, rfl, .inl rfl⟩, by decide +kernel, rfl, rfl⟩,
    ⟨⟨rfl, rfl⟩, rfl, rfl, rfl, .inl rfl⟩, rfl, by decide +kernel,
    next_of_stepsTo false _ (by decide +kernel)⟩

/-- `small` with the LCD on. -/
def lit : State := { small with ppu := Ppu.reset }

theorem witness_lcdRegisters :
    (lit.ppu.lcdOn = true ∧ (0x7F#8 : Byte).getLsbD 7 = false) ∧
      (small.ppu.lcdOn = false ∧ (0x80#8 : Byte).getLsbD 7 = true) ∧
      lit.ppu.lcdOn = (0x80#8 : Byte).getLsbD 7 ∧ small.ppu.lcdOn = (0x00#8 : Byte).getLsbD 7 := by decide

/-- Both ends of the copy, and an index past it. -/
theorem witness_oamDma : MemoryInv small ∧ 0 < 160 ∧ 159 < 160 ∧ 160 ≤ 160 := ⟨small_memory, by decide⟩

/-- A store to WRAM, and to VRAM and OAM with the LCD off, reads back; the byte beside it cannot change, the echo can. -/
theorem witness_stored :
    MemoryInv small ∧ plainAt small 0xC000#16 ∧ plainAt small 0x8000#16 ∧ plainAt small 0xFE9F#16 ∧
      plainAt small 0xFFFF#16 ∧ ¬mayChange small 0xC000#16 0xC001#16 ∧ mayChange small 0xC000#16 0xE000#16 :=
  ⟨small_memory, trivial, show small.ppu.blocked = false by decide, show small.ppu.blocked = false by decide, trivial,
    fun h => absurd (show region 0xC001#16 = region 0xC000#16 from h) (by decide +kernel),
    show region 0xE000#16 = region 0xC000#16 by decide +kernel⟩

/-- The two stores of a push at SP = 0xC102. -/
theorem witness_storedTwo :
    MemoryInv small ∧ plainAt small 0xC101#16 ∧ plainAt (memWrite small 0xC101#16 0x12#8) 0xC100#16 ∧
      ¬mayChange (memWrite small 0xC101#16 0x12#8) 0xC100#16 0xC101#16 :=
  ⟨small_memory, trivial, trivial, fun h => absurd (show region 0xC101#16 = region 0xC100#16 from h) (by decide +kernel)⟩

/-- `lit` in mode 3, where VRAM and OAM are blocked. -/
def blockedState : State := { lit with ppu := { lit.ppu with dot := 100, mode := .transfer } }

/-- The address reads SENTINEL before and after a write of 0x5A. -/
def sentinelAt (s : State) (a : Word) : Bool := memRead s a == 0xFF#8 && memRead (memWrite s a 0x5A#8) a == 0xFF#8

/-- The ends of the echo (R157). -/
theorem witness_echo :
    [0xE000#16, 0xFDFF#16].all (fun a =>
      decide (0xE000 ≤ a.toNat) && decide (a.toNat < 0xFE00) &&
        memRead (memWrite small a 0x5A#8) (a - 0x2000#16) == 0x5A#8) = true := by decide +kernel

/-- The ends of blocked VRAM and OAM (R154, R158). -/
theorem witness_blocked :
    blockedState.ppu.lcdOn = true ∧ blockedState.ppu.mode = .transfer ∧
      [0x8000#16, 0x9FFF#16, 0xFE00#16, 0xFE9F#16].all (fun a =>
        decide ((0x8000 ≤ a.toNat ∧ a.toNat < 0xA000) ∨ (0xFE00 ≤ a.toNat ∧ a.toNat < 0xFEA0)) &&
          sentinelAt blockedState a) = true := by decide +kernel

/-- The ends of the unusable block and of every hole of the I/O block (R92, R159). -/
theorem witness_holes :
    [0xFEA0#16, 0xFEFF#16].all (fun a =>
        decide (0xFEA0 ≤ a.toNat) && decide (a.toNat < 0xFF00) && sentinelAt small a) = true ∧
      [0xFF03#16, 0xFF08#16, 0xFF0E#16, 0xFF15#16, 0xFF1F#16, 0xFF27#16, 0xFF2F#16, 0xFF4C#16, 0xFF7F#16].all
        (sentinelAt small) = true := by decide +kernel

/-- Both ends of wave RAM (R91). -/
theorem witness_wave :
    [0xFF30#16, 0xFF3F#16].all (fun a =>
      decide (0xFF30 ≤ a.toNat ∧ a.toNat < 0xFF40) && memRead (memWrite small a 0x5A#8) a == 0x5A#8) = true := by
  decide +kernel

/-- `small` with a variant A controller, its RAM disabled. -/
def banked : State :=
  { small with
    cart :=
      { Cart.blank with
        nrom := 4, ctrl := .a { ramEnable := false, bank1 := 3#5, bank2 := 0#2, mode := false }, rom := [(0xC000, 0x77#8)] } }

/-- `small` with a controller, 32 KiB of external RAM that lists one byte of bank 2, and its RAM enabled. -/
def slot (c : Controller) : State :=
  { small with cart := { Cart.blank with nrom := 4, nram := 4, ramSize := 0x8000, ctrl := c, eram := [(0x4000, 0x66#8)] } }

def slotA : State := slot (.a { ramEnable := true, bank1 := 3#5, bank2 := 2#2, mode := true })
def slotB : State := slot (.b { ramEnable := true, romBank := 1#4 })
def slotC (sel : BitVec 4) (k : Option Clock) : State :=
  slot (.c { ramEnable := true, romBank := 1#7, sel := sel, latchPrev := 0x00#8, clock := k })
def slotD : State := slot (.d { ramEnable := true, romBank := 0x123#9, ramBank := 2#4, rumble := false })

/-- The ends of each register's address range are commands of that register (R246, R251, R261, R271). -/
theorem test_controlRanges :
    ((memWrite slotA 0x1FFF#16 0x00#8).cart.ctrl, (memWrite slotA 0x2000#16 0x21#8).cart.ctrl,
        (memWrite slotA 0x5FFF#16 0x05#8).cart.ctrl, (memWrite slotA 0x6000#16 0x00#8).cart.ctrl) =
      (.a { ramEnable := false, bank1 := 3#5, bank2 := 2#2, mode := true },
        .a { ramEnable := true, bank1 := 1#5, bank2 := 2#2, mode := true },
        .a { ramEnable := true, bank1 := 3#5, bank2 := 1#2, mode := true },
        .a { ramEnable := true, bank1 := 3#5, bank2 := 2#2, mode := false }) ∧
    ((memWrite slotB 0x3EFF#16 0x00#8).cart.ctrl, (memWrite slotB 0x0100#16 0x05#8).cart.ctrl,
        (memWrite slotB 0x4100#16 0x05#8).cart.ctrl) =
      (.b { ramEnable := false, romBank := 1#4 }, .b { ramEnable := true, romBank := 5#4 },
        .b { ramEnable := true, romBank := 1#4 }) ∧
    ((memWrite slotD 0x2FFF#16 0x44#8).cart.ctrl, (memWrite slotD 0x3000#16 0x00#8).cart.ctrl,
        (memWrite slotD 0x4000#16 0x1F#8).cart.ctrl) =
      (.d { ramEnable := true, romBank := 0x144#9, ramBank := 2#4, rumble := false },
        .d { ramEnable := true, romBank := 0x023#9, ramBank := 2#4, rumble := false },
        .d { ramEnable := true, romBank := 0x123#9, ramBank := 15#4, rumble := false }) := by decide +kernel

/-- External RAM enabled and present at both ends of its window, for every controller that maps a bank; the byte listed
is the first of bank 2. -/
theorem witness_cartridgeRam :
    [slotA, slotC 2#4 none, slotD].all (fun s =>
        ramEnabled s.cart.ctrl && mappedRam s.cart.ctrl == some 2 && s.cart.ramSize != 0 &&
          memRead s 0xA000#16 == 0x66#8 && memRead (memWrite s 0xBFFF#16 0x5A#8) 0xBFFF#16 == 0x5A#8) = true ∧
      mappedRam Controller.none = some 0 ∧ memRead (memWrite slotB 0xA200#16 0x5A#8) 0xBE00#16 = 0xFA#8 := by
  decide +kernel

/-- Absent external RAM, and what variant C selects that is not there: SENTINEL and no effect (R231, R263). -/
theorem witness_noRam :
    sentinelAt { slotD with cart := { slotD.cart with ramSize := 0 } } 0xA000#16 = true ∧
      (mappedRam slotD.cart.ctrl).isSome = true ∧
      [slotC 4#4 none, slotC 7#4 none, slotC 8#4 none, slotC 12#4 none, slotC 13#4 none].all (fun s =>
        sentinelAt s 0xA000#16 && sentinelAt s 0xBFFF#16) = true := by decide +kernel

/-- The ends of the two ROM windows, of the enable register and of external RAM (R246, R247). -/
theorem witness_cartridgeBanks :
    [0x0000#16, 0x3FFF#16, 0x4000#16, 0x7FFF#16].all (fun a => decide (a.toNat < 0x8000)) = true ∧
      memRead banked 0x4000#16 = 0x77#8 ∧
      ramEnabled (memWrite banked 0x00FF#16 0x0A#8).cart.ctrl = true ∧ ramEnabled banked.cart.ctrl = false ∧
      [0xA000#16, 0xBFFF#16].all (fun a =>
        decide (0xA000 ≤ a.toNat) && decide (a.toNat < 0xC000) && sentinelAt banked a) = true := by
  decide +kernel

/-- A running clock one T-cycle before a second, its registers at the last second of day 511; and a halted one. -/
def lastSecond : Clock :=
  { live := { s := 59#6, m := 59#6, hr := 23#5, dl := 0xFF#8, dh := 0x01#8 },
    latched := { s := 0#6, m := 0#6, hr := 0#5, dl := 0x00#8, dh := 0x00#8 }, sub := 4194303 }

theorem witness_clockAdvance :
    lastSecond.live.dh.getLsbD 6 = false ∧ lastSecond.sub < 4194304 ∧ lastSecond.live.s.toNat < 60 ∧
      lastSecond.live.m.toNat < 60 ∧ lastSecond.live.hr.toNat < 24 ∧
      clockSeconds lastSecond.live + 1 = 512 * 86400 ∧ lastSecond.tick.live.dh = 0x80#8 ∧
      ({ lastSecond with live := { lastSecond.live with dh := 0x40#8 } } : Clock).live.dh.getLsbD 6 = true := by
  decide +kernel

/-- The clock registers at both ends of the selector, each with a read from the latched ones; a latch command (R261,
R263). -/
theorem witness_clockAccess :
    [8#4, 12#4].all (fun sel => ramEnabled (slotC sel (some lastSecond)).cart.ctrl &&
        decide (8 ≤ sel.toNat ∧ sel.toNat ≤ 12) && memRead (slotC sel (some lastSecond)) 0xA000#16 == 0x00#8) = true ∧
      memRead (memWrite (slotC 8#4 (some lastSecond)) 0x6000#16 0x01#8) 0xA000#16 = 0x3B#8 := by decide +kernel

/-- The types R225 gives RAM by the size alone, and those R240 gives it by the type; variant B's cells. -/
theorem test_ramPresence :
    [0x01, 0x03, 0x0F, 0x11, 0x19, 0x1C, 0x00, 0x08, 0x05].map (fun c : Nat =>
        (cartType (BitVec.ofNat 8 c)).map (ramSizeOf · 0x2000)) =
      [some 0x2000, some 0x2000, some 0x2000, some 0x2000, some 0x2000, some 0x2000, some 0, some 0x2000, some 512] := by
  decide

/-- A state saved before a step and restored after it (R882). -/
theorem test_save_restore : (after small 0x3C#8 0 0).restore small.save = small :=
  have h : (after small 0x3C#8 0 0).params = small.params ∧ (after small 0x3C#8 0 0).ended = small.ended := by
    decide +kernel
  (show { small with params := (after small 0x3C#8 0 0).params, ended := (after small 0x3C#8 0 0).ended } = small by
    rw [h.1, h.2])

/-- Power on and off, the values at which DACs and triggers turn, and a start sweep check that passes 2047, one that reaches
it and one that goes down. -/
theorem witness_soundControl :
    Apu.reset.power = true ∧ ({ Apu.reset with power := false } : Apu).power = false ∧ SoundReg.nr10 ≠ .nr52 ∧
      (0x7F#8 : Byte).getLsbD 7 = false ∧ (0x80#8 : Byte).getLsbD 7 = true ∧
      Apu.reset.power = (0x80#8 : Byte).getLsbD 7 ∧
      SoundReg.nr43 ∈ [SoundReg.nr10, .nr13, .nr23, .nr32, .nr33, .nr43, .nr50, .nr51] ∧
      SoundReg.nr34 ∈ [SoundReg.nr14, .nr24, .nr34, .nr44] ∧ (0x7F#8 : Byte).toNat < 128 ∧
      128 ≤ (0x80#8 : Byte).toNat ∧ sweptPeriod 0x01#8 1366 = 2049 ∧ sweptPeriod 0x01#8 1365 = 2047 ∧
      sweptPeriod 0x09#8 1366 = 683 := by decide

/-- A trigger of channel 1 with a sweep step (R713, R714), the DAC on: with the period 1366 it ends with the channel off,
with 1365 on; and off with the DAC off. -/
theorem test_trigger_sweep_check :
    let p : Byte → Byte → Apu := fun nr12 nr13 =>
      { Apu.reset with regs := { SoundRegs.reset with nr10 := 0x11#8, nr12 := nr12, nr13 := nr13 } }
    ((p 0xF3#8 0x56#8).writeReg .nr14 0x85#8).ch1.on = false ∧ ((p 0xF3#8 0x55#8).writeReg .nr14 0x85#8).ch1.on = true ∧
      ((p 0x07#8 0x55#8).writeReg .nr14 0x85#8).ch1.on = false ∧
      ((p 0xF3#8 0x55#8).writeReg .nr14 0x85#8).sweep = { timer := 1, enabled := true, shadow := 1365#11 } := by decide

/-- Zeros around one byte: the byte, those after it, and the length. -/
theorem zeros_around (k m : Nat) (code : Byte) (image : List Byte)
    (h : image = List.replicate k 0#8 ++ code :: List.replicate m 0#8) :
    imageByte image k = code ∧ (∀ j < m, imageByte image (k + 1 + j) = 0#8) ∧ image.length = k + m + 1 := by
  subst h
  refine ⟨by simp [imageByte, List.getD], fun j hj => ?_, by simp; omega⟩
  have e : k + 1 + j - k = j + 1 := by omega
  rw [imageByte, List.getD_append_right _ _ _ _ (by simp; omega), List.length_replicate, e, List.getD_cons_succ]
  simp [List.getD, hj]

/-- A 32 KiB image of 0 but for the type code at 0x0147. -/
def imageOfType (code : Byte) : List Byte := List.replicate 0x147 0#8 ++ code :: List.replicate 0x7EB8 0#8

/-- The default setup with the checksum policy that lets a mismatch pass. -/
def lenient : Setup := { Setup.default with params := { Params.default with checksumPolicy := .warn } }

/-- A startup from such an image is accepted, whatever the supported type. -/
theorem powerOn_imageOfType (code : Byte) (t : CartType) (h : cartType code = some t) :
    cartType (imageByte (imageOfType code) 0x147) = some t ∧
      ∃ s w, powerOn lenient (some (imageOfType code)) none = .ok (s, w) := by
  obtain ⟨c, b, n⟩ := zeros_around 0x147 0x7EB8 code (imageOfType code) rfl
  refine ⟨by rw [c, h], ?_⟩
  unfold powerOn loadCart
  simp only [c, h, n, b 0 (by decide), b 1 (by decide), Nat.reduceLT, if_false, Nat.reduceAdd,
    show romBanks 0#8 = some 2 by decide, show ramBytesOf 0#8 = some 0 by decide, Nat.reduceMul,
    show lenient.params.checksumPolicy = .warn from rfl, if_true]
  split
  · exact absurd ‹_› (by split_ifs <;> nofun)
  · exact ⟨_, _, rfl⟩

/-- For `ResetState`: a startup of each controller variant. -/
theorem witness_resetState :
    ∀ code ∈ [0x00#8, 0x01#8, 0x05#8, 0x0F#8, 0x11#8, 0x19#8, 0x1C#8], ∃ t s w,
      cartType (imageByte (imageOfType code) 0x147) = some t ∧
        powerOn lenient (some (imageOfType code)) none = .ok (s, w) := by
  intro code hc
  have k : ∃ t, cartType code = some t := by
    simp only [List.mem_cons, List.not_mem_nil, or_false] at hc
    rcases hc with rfl | rfl | rfl | rfl | rfl | rfl | rfl <;> exact ⟨_, rfl⟩
  obtain ⟨t, h⟩ := k
  obtain ⟨h1, s, w, h2⟩ := powerOn_imageOfType code t h
  exact ⟨t, s, w, h1, h2⟩

/-- SC writes, an idle port, a port at the start of a transfer and one bit later. -/
def transferring : Serial := { Serial.reset with start := true, internal := true, bitsLeft := 8, timer := 512 }

theorem witness_serialTransfer :
    (0x81#8 : Byte).getLsbD 7 = true ∧ (0x81#8 : Byte).getLsbD 0 = true ∧ (0x7F#8 : Byte).getLsbD 7 = false ∧
      ((0xFE#8 : Byte).getLsbD 7 = true ∧ (0xFE#8 : Byte).getLsbD 0 = false) ∧ Serial.reset.bitsLeft = 0 ∧ transferring.bitsLeft = 8 ∧ transferring.timer = 512 ∧
      (serialTicks 511 transferring).1.sb = 0x00#8 ∧ (serialTicks 512 transferring).1.sb = 0x01#8 := by decide +kernel

/-- Stores to AF and to another pair by `POP`. -/
theorem witness_pop : StackPair.af = .af ∧ StackPair.bc ≠ .af := by decide

end Sys2Proof.Tests
end

section
/-! PROOF. Every step keeps the memory arrays (R91, R100, R240) and the processor's control invariant (R54, R190, R583,
R585). -/

namespace Sys2Proof.Machine

open Sys2Proof.Config

/-- A T-cycle keeps every memory array: of the cartridge only the controller's clock moves. -/
theorem tick_memory {s : State} (h : MemoryInv s) : MemoryInv (tick s) where
  vram := by rw [tick_vram]; exact h.vram
  wram := by rw [tick_wram]; exact h.wram
  oam := by rw [tick_oam]; exact h.oam
  hram := by rw [tick_hram]; exact h.hram
  wave := by
    by_cases st : s.cpu.stopped = true
    · rw [tick_stopped st]; exact h.wave
    · rw [tick_running (by simpa using st)]
      show (s.apu.tick s.params.sampleRate).wave.fits 16 = true
      rw [Apu.wave_tick]
      exact h.wave
  rom := by rw [tick_cart]; exact h.rom
  eram := by rw [tick_cart, Cart.ramCells_tick]; exact h.eram

/-- Settles O45: bus writes keep the arrays (`memWrite_memory`), and so do T-cycles; nothing else in a step reaches
them. -/
theorem stepKeepsMemory : Obligations.StepKeepsMemory := by
  intro s t h inv
  exact step_keeps (P := MemoryInv)
    (cpu := fun _ _ p => p.congr rfl rfl rfl rfl rfl rfl)
    (write := fun _ a v p => memWrite_memory a v p)
    (div := fun _ p => p.congr rfl rfl rfl rfl rfl rfl)
    (ack := fun _ _ p => p.congr rfl rfl rfl rfl rfl rfl)
    (tick := fun _ p => tick_memory p)
    (ended := fun _ _ p => p.congr rfl rfl rfl rfl rfl rfl) h inv

/-- The control state of `t` is that of `s`, but for a stall that a bus write may have started (R190). -/
structure SteadyControl (s t : State) : Prop where
  ime : t.cpu.ime = s.cpu.ime
  delay : t.cpu.imeDelay = s.cpu.imeDelay
  halted : t.cpu.halted = s.cpu.halted
  stopped : t.cpu.stopped = s.cpu.stopped
  bug : t.cpu.haltBug = s.cpu.haltBug
  stall : t.cpu.dmaStall = s.cpu.dmaStall ∨ t.cpu.dmaStall = dmaLength

theorem SteadyControl.trans {s t u : State} (h : SteadyControl s t) (g : SteadyControl t u) : SteadyControl s u where
  ime := g.ime.trans h.ime
  delay := g.delay.trans h.delay
  halted := g.halted.trans h.halted
  stopped := g.stopped.trans h.stopped
  bug := g.bug.trans h.bug
  stall := by
    rcases g.stall with e | e
    · rw [e]; exact h.stall
    · exact .inr e

theorem memWrite_steadyControl (s : State) (a : Word) (v : Byte) : SteadyControl s (memWrite s a v) := by
  have e := memWrite_cpu s a v
  exact ⟨by rw [e], by rw [e], by rw [e], by rw [e], by rw [e], memWrite_stall s a v⟩

/-- The control invariant looks at the processor alone. -/
theorem CpuInv.congr {s t : State} (h : CpuInv s) (e : t.cpu = s.cpu) : CpuInv t :=
  ⟨e ▸ h.delay, e ▸ h.delayOff, e ▸ h.stall, e ▸ h.bug, e ▸ h.oneState⟩

/-- The control invariant outlives a change of registers and a stall that starts. -/
theorem CpuInv.steady {s t : State} (h : CpuInv s) (c : SteadyControl s t) : CpuInv t where
  delay := by rw [c.delay]; exact h.delay
  delayOff := by rw [c.delay, c.ime]; exact h.delayOff
  stall := by
    rcases c.stall with e | e
    · rw [e]; exact h.stall
    · rw [e]; decide
  bug := by rw [c.bug, c.halted, c.stopped]; exact h.bug
  oneState := by rw [c.halted, c.stopped]; exact h.oneState

/-- What an instruction does without a counted change of control state keeps the control state. -/
theorem Does.steadyControl {k : Nat} {s t : State} (d : Does k s t) (z : k = 0) : SteadyControl s t := by
  induction d with
  | regs s c ime delay halted stopped bug stall _ _ => exact ⟨ime, delay, halted, stopped, bug, .inl stall⟩
  | write s a v => exact memWrite_steadyControl s a v
  | div s => exact ⟨rfl, rfl, rfl, rfl, rfl, .inl rfl⟩
  | stop | halt | bug | ei | ime | fatal => omega
  | seq _ _ h g => exact (h (by omega)).trans (g (by omega))

/-- The control invariant of a processor that runs: neither halted nor stopped, and the halt bug not armed. -/
structure RunningInv (s : State) : Prop where
  inv : CpuInv s
  halted : s.cpu.halted = false
  stopped : s.cpu.stopped = false
  bug : s.cpu.haltBug = false

theorem RunningInv.steady {s t : State} (h : RunningInv s) (c : SteadyControl s t) : RunningInv t where
  inv := h.inv.steady c
  halted := c.halted.trans h.halted
  stopped := c.stopped.trans h.stopped
  bug := c.bug.trans h.bug

/-- An instruction, which changes control state at most once, keeps the control invariant of a processor that runs: one
change from there cannot lead to two of halt, stop and halt bug. -/
theorem Does.cpuInv {k : Nat} {s t : State} (d : Does k s t) (le : k ≤ 1) (r : RunningInv s) : CpuInv t := by
  induction d with
  | regs s c ime delay halted stopped bug stall fatal addr =>
    exact r.inv.steady ⟨ime, delay, halted, stopped, bug, .inl stall⟩
  | write s a v => exact r.inv.steady (memWrite_steadyControl s a v)
  | div s => exact r.inv.steady ⟨rfl, rfl, rfl, rfl, rfl, .inl rfl⟩
  | stop s => exact { r.inv with bug := by simp [r.bug], oneState := by simp [r.halted] }
  | halt s => exact { r.inv with bug := by simp [r.bug], oneState := fun _ => r.stopped }
  | bug s _ => exact { r.inv with bug := fun _ => ⟨r.halted, r.stopped⟩ }
  | ei s off => exact { r.inv with delay := Nat.le_refl 2, delayOff := fun _ => off }
  | ime s b => exact { r.inv with delay := Nat.zero_le 2, delayOff := fun ne => absurd rfl ne }
  | fatal s u => exact { r.inv with }
  | @seq j k s t u first second ihFirst ihSecond =>
    rcases Nat.eq_zero_or_pos j with zero | pos
    · exact ihSecond (by omega) (r.steady (first.steadyControl zero))
    · exact (ihFirst (by omega) r).steady (second.steadyControl (by omega))

/-- The countdown of `EI` keeps the control invariant: IME is set as the countdown reaches 0 (R585). -/
theorem State.afterInstr_cpuInv {s : State} (h : CpuInv s) : CpuInv s.afterInstr := by
  unfold State.afterInstr State.countDownIme
  split_ifs with _ zero one
  · exact h
  · exact h
  · exact { h with delay := Nat.zero_le 2, delayOff := fun ne => absurd rfl ne }
  · exact { h with delay := (Nat.sub_le _ _).trans h.delay, delayOff := fun _ => h.delayOff zero }

/-- Waking up keeps the control invariant (R582, R584). -/
theorem State.wake_cpuInv {s : State} (h : CpuInv s) : CpuInv s.wake :=
  { h with bug := fun _ => ⟨rfl, rfl⟩, oneState := fun _ => rfl }

/-- After the fetch of a processor that has woken up it runs, the halt bug disarmed (R800). -/
theorem State.afterFetch_runningInv {s : State} (h : CpuInv s) : RunningInv s.wake.afterFetch where
  inv := { State.wake_cpuInv h with bug := fun _ => ⟨rfl, rfl⟩ }
  halted := rfl
  stopped := rfl
  bug := rfl

/-- Taking an interrupt keeps the control invariant: IME is cleared and the halt bug disarmed (R813). -/
theorem takeInterrupt_cpuInv (k : Nat) {s : State} (h : CpuInv s) : CpuInv (takeInterrupt k s) := by
  rw [takeInterrupt_eq]
  have pushed := (memWrite_steadyControl s (s.cpu.sp - 1#16) (hi s.returnPc)).trans
    (memWrite_steadyControl _ (s.cpu.sp - 2#16) (lo s.returnPc))
  exact
    { h with
      stall := (h.steady pushed).stall
      delayOff := fun _ => rfl
      bug := fun e => (Bool.false_ne_true e).elim }

/-- The processor step keeps the control invariant, by its four cases. -/
theorem cpuStep_cpuInv {s u : State} (h : cpuStep s = .next u) (inv : CpuInv s) : CpuInv u := by
  rcases cpuStep_cases h with ⟨-, rfl⟩ | ⟨-, -, rfl⟩ | ⟨-, -, -, rfl⟩ | ⟨-, -, v, hv, rfl⟩
  · exact { inv with stall := (Nat.sub_le _ _).trans inv.stall }
  · exact { inv with }
  · exact takeInterrupt_cpuInv _ (State.wake_cpuInv inv)
  · obtain ⟨k, le, d⟩ := exec_next hv
    exact State.afterInstr_cpuInv (d.cpuInv le (State.afterFetch_runningInv inv))

/-- The devices' T-cycles and the end checks leave the processor as it is. -/
@[simp] theorem finishIteration_cpu (u : State) : (finishIteration u).cpu = u.cpu := by
  rcases finishIteration_cases u with ⟨-, e⟩ | ⟨-, m, e⟩
  · rw [e]
  · rw [e]; exact advance_cpu _ u

/-- Settles O46: the processor step keeps the control invariant, and the rest of the iteration leaves the processor
alone. -/
theorem stepKeepsControl : Obligations.StepKeepsControl := by
  intro s t h inv
  obtain ⟨-, u, hu, rfl⟩ := step_cases h
  exact (cpuStep_cpuInv hu inv).congr (finishIteration_cpu u)

end Sys2Proof.Machine
end

section
/-! PROOF. Every step keeps the invariant of the pixel pipeline (R127, R601 to R604, R611, R615). -/

namespace Sys2Proof.Machine

open Sys2Proof.Config

/-- A bus write reaches the devices through the I/O block alone (R150, R163). -/
theorem memWrite_devices (s : State) (a : Word) (v : Byte) :
    (∃ r, memWrite s a v = ioWrite s v r) ∨
      ((memWrite s a v).ppu = s.ppu ∧ (memWrite s a v).apu = s.apu ∧ (memWrite s a v).serial = s.serial) := by
  unfold memWrite
  cases region a with
  | io i => exact .inl ⟨ioReg i, rfl⟩
  | vram i =>
    simp only [writeRegion]
    split <;> exact .inr ⟨rfl, rfl, rfl⟩
  | oam i =>
    simp only [writeRegion]
    split <;> exact .inr ⟨rfl, rfl, rfl⟩
  | rom | eram | wram | hram | unusable | ie => exact .inr ⟨rfl, rfl, rfl⟩

/-- A write to LCDC keeps the invariant, whichever way it moves bit 7 (R610, R611). -/
theorem Ppu.writeLcdc_inv {p : Ppu} (h : PpuInv p) (v : Byte) : PpuInv (p.writeLcdc v).1 := by
  unfold Ppu.writeLcdc
  split_ifs with off on
  · simp only [Bool.and_eq_true, Bool.not_eq_true'] at off
    exact
      { h with
        ly := show (0#8 : Byte).toNat < linesPerFrame by decide
        dot := show 0 < dotsPerLine by decide
        modeOn := fun e => absurd (off.2.symm.trans e) (by decide)
        off := fun _ => ⟨rfl, rfl, rfl⟩
        flag := rfl }
  · simp only [Bool.and_eq_true] at on
    exact
      { h with
        ly := show (0#8 : Byte).toNat < linesPerFrame by decide
        dot := show 0 < dotsPerLine by decide
        modeOn := fun _ => rfl
        off := fun e => absurd (on.2.symm.trans e) (by decide)
        flag := rfl }
  · have same : v.getLsbD 7 = p.lcdOn := by
      revert off on
      cases v.getLsbD 7 <;> cases p.lcdOn <;> simp
    exact { h with modeOn := fun e => h.modeOn (same.symm.trans e), off := fun e => h.off (same.symm.trans e) }

/-- No I/O write breaks the invariant (R80 to R88, R610, R616). -/
theorem ioWrite_ppuInv {s : State} (v : Byte) (r : IoReg) (h : PpuInv s.ppu) : PpuInv (ioWrite s v r).ppu := by
  cases r with
  | lcdc => exact Ppu.writeLcdc_inv h v
  | lyc => exact { h with flag := rfl }
  | dma =>
    obtain ⟨m, -, e⟩ := dmaStart_eq s v
    show PpuInv (dmaStart s v).ppu
    rw [e]
    exact { h with }
  | stat | scy | scx | bgp | obp0 | obp1 | wy | wx => exact { h with }
  | _ => exact h

theorem memWrite_ppuInv {s : State} (a : Word) (v : Byte) (h : PpuInv s.ppu) : PpuInv (memWrite s a v).ppu := by
  rcases memWrite_devices s a v with ⟨r, e⟩ | ⟨e, -, -⟩
  · rw [e]; exact ioWrite_ppuInv v r h
  · rw [e]; exact h

/-- The pipeline with the LCD on after the dot counter has moved and before the mode follows (R604): inside a line the
mode is that of the dot before, and below line 144 it stays vertical blank. -/
structure DotMoved (p : Ppu) : Prop where
  ly : p.ly.toNat < linesPerFrame
  dot : p.dot < dotsPerLine
  endLow : 252 ≤ p.mode3End
  endHigh : p.mode3End ≤ 369
  on : p.lcdOn = true
  modeInLine : p.dot ≠ 0 → p.mode = modeAt p.ly.toNat (p.dot - 1) p.mode3End
  modeBelow : visibleLines < p.ly.toNat → p.mode = .vblank
  flag : p.coincidence = (p.ly == p.lyc)
  rows : p.fb.length = visibleLines
  columns : ∀ r ∈ p.fb, r.length = screenWidth

/-- From line 144 on the mode is vertical blank (R602). -/
theorem modeAt_vblank {ly : Nat} (dot e : Nat) (h : visibleLines ≤ ly) : modeAt ly dot e = .vblank := if_pos h

theorem modeAt_oamScan {ly dot : Nat} (e : Nat) (visible : ly < visibleLines) (h : dot < oamScanDots) :
    modeAt ly dot e = .oamScan := by
  rw [modeAt, if_neg (Nat.not_le.mpr visible), if_pos h]

theorem modeAt_transfer {ly dot e : Nat} (visible : ly < visibleLines) (l : oamScanDots ≤ dot) (h : dot < e) :
    modeAt ly dot e = .transfer := by
  rw [modeAt, if_neg (Nat.not_le.mpr visible), if_neg (Nat.not_lt.mpr l), if_pos h]

theorem modeAt_hblank {ly dot e : Nat} (visible : ly < visibleLines) (l : oamScanDots ≤ dot) (h : e ≤ dot) :
    modeAt ly dot e = .hblank := by
  rw [modeAt, if_neg (Nat.not_le.mpr visible), if_neg (Nat.not_lt.mpr l), if_neg (Nat.not_lt.mpr h)]

/-- The dot counter's step (R604). -/
theorem Ppu.advanceDot_moved {p : Ppu} (h : PpuInv p) (on : p.lcdOn = true) : DotMoved p.advanceDot.1 := by
  have mode := h.modeOn on
  have ly := h.ly
  unfold Ppu.advanceDot
  split_ifs with last
  · have next : (BitVec.ofNat 8 ((p.ly.toNat + 1) % linesPerFrame)).toNat = (p.ly.toNat + 1) % linesPerFrame :=
      Nat.mod_eq_of_lt (by simp only [linesPerFrame]; omega)
    exact
      { ly := by
          show (BitVec.ofNat 8 _).toNat < _
          rw [next]; exact Nat.mod_lt _ (by decide)
        dot := show 0 < dotsPerLine by decide
        endLow := h.endLow
        endHigh := h.endHigh
        on := on
        modeInLine := fun ne => absurd rfl ne
        modeBelow := by
          show visibleLines < (BitVec.ofNat 8 _).toNat → p.mode = _
          rw [next, mode]
          simp only [visibleLines, linesPerFrame] at ly ⊢
          exact fun below => modeAt_vblank _ _ (by simp only [visibleLines]; omega)
        flag := rfl
        rows := h.rows
        columns := h.columns }
  · exact
      { h with
        dot := by have := h.dot; show p.dot + 1 < _; omega
        on := on
        modeInLine := fun _ => mode
        modeBelow := fun below => mode.trans (modeAt_vblank _ _ below.le) }

/-- A rendered line has the width of the screen (R620). -/
theorem Ppu.line_length (p : Ppu) (vram oam : Mem) (y : Nat) : (p.line vram oam y).length = screenWidth := by
  simp [Ppu.line]

/-- Rendering a line keeps the size of the frame (R620). -/
theorem Ppu.renderLine_columns {p : Ppu} (vram oam : Mem) (h : ∀ r ∈ p.fb, r.length = screenWidth) :
    ∀ r ∈ (p.renderLine vram oam).fb, r.length = screenWidth := by
  intro r mem
  rcases List.mem_or_eq_of_mem_set mem with old | rfl
  · exact h r old
  · exact p.line_length vram oam _

/-- MODE3_LEN is in 172 to 289 (R603). -/
theorem mode3Len_range (q : Params) (ctx : LineCtx) : 172 ≤ mode3Len q ctx ∧ mode3Len q ctx ≤ 289 := by
  unfold mode3Len
  split <;> constructor <;> omega

/-- Between two mode changes of a visible line the mode stays what it was a dot before (R602). -/
theorem modeAt_pred {ly dot e : Nat} (low : 252 ≤ e) (visible : ly < visibleLines) (scanEnd : dot ≠ oamScanDots)
    (transferEnd : ¬(dot = e ∧ modeAt ly (dot - 1) e = .transfer)) :
    modeAt ly (dot - 1) e = modeAt ly dot e := by
  have eighty : oamScanDots = 80 := rfl
  rcases Nat.lt_or_gt_of_ne scanEnd with scan | after
  · rw [modeAt_oamScan e visible scan, modeAt_oamScan e visible (by omega)]
  · rcases Nat.lt_trichotomy dot e with before | position | past
    · rw [modeAt_transfer visible after.le before, modeAt_transfer visible (by omega) (by omega)]
    · exact absurd ⟨position, modeAt_transfer visible (by omega) (by omega)⟩ transferEnd
    · rw [modeAt_hblank visible after.le past.le, modeAt_hblank visible (by omega) (by omega)]

/-- The mode change of R604 leaves the mode of R602. -/
theorem Ppu.modeChange_inv {p : Ppu} (q : Params) (vram oam : Mem) (h : DotMoved p) :
    PpuInv (p.modeChange q vram oam).1 := by
  have off : ∀ {P : Prop}, p.lcdOn = false → P := fun e => absurd (h.on.symm.trans e) (by decide)
  have low := h.endLow
  have eighty : oamScanDots = 80 := rfl
  unfold Ppu.modeChange
  split_ifs with scan transfer blank below
  · obtain ⟨visible, start⟩ := scan
    have mode : modeAt p.ly.toNat p.dot p.mode3End = .oamScan := modeAt_oamScan _ visible (by omega)
    exact { h with off := off, modeOn := fun _ => mode.symm }
  · obtain ⟨visible, scanEnd⟩ := transfer
    obtain ⟨least, most⟩ := mode3Len_range q (p.lineCtx oam)
    have mode : modeAt p.ly.toNat p.dot (oamScanDots + mode3Len q (p.lineCtx oam)) = .transfer :=
      modeAt_transfer visible scanEnd.ge (by omega)
    exact
      { h with
        endLow := show 252 ≤ oamScanDots + mode3Len q (p.lineCtx oam) by omega
        endHigh := show oamScanDots + mode3Len q (p.lineCtx oam) ≤ 369 by omega
        off := off
        modeOn := fun _ => mode.symm
        rows := (List.length_set ..).trans h.rows
        columns := p.renderLine_columns vram oam h.columns }
  · obtain ⟨visible, transferEnd, -⟩ := blank
    have mode : modeAt p.ly.toNat p.dot p.mode3End = .hblank := modeAt_hblank visible (by omega) (by omega)
    exact { h with off := off, modeOn := fun _ => mode.symm }
  · exact { h with off := off, modeOn := fun _ => (modeAt_vblank _ _ below.1.ge).symm }
  · refine { h with off := off, modeOn := fun _ => ?_ }
    rcases Nat.lt_or_ge p.ly.toNat visibleLines with visible | beyond
    · have start : p.dot ≠ 0 := fun e => scan ⟨visible, e⟩
      have mode := h.modeInLine start
      rw [mode]
      exact modeAt_pred low visible (fun e => transfer ⟨visible, e⟩)
        fun e => blank ⟨visible, e.1, mode.trans e.2⟩
    · rw [modeAt_vblank _ _ beyond]
      rcases Nat.eq_zero_or_pos p.dot with start | inLine
      · exact h.modeBelow (Nat.lt_of_le_of_ne beyond fun e => below ⟨e.symm, start⟩)
      · exact (h.modeInLine inLine.ne').trans (modeAt_vblank _ _ beyond)

/-- A T-cycle keeps the invariant of the pixel pipeline (R604, R611). -/
theorem Ppu.tick_inv {p : Ppu} (q : Params) (vram oam : Mem) (h : PpuInv p) : PpuInv (p.tick q vram oam).1 := by
  unfold Ppu.tick
  split_ifs with on
  · exact Ppu.modeChange_inv q vram oam (Ppu.advanceDot_moved h on)
  · exact h

/-- What a T-cycle does to the pixel pipeline: nothing while the processor is stopped (R584, R860). -/
theorem tick_ppu (s : State) :
    (tick s).ppu = if s.cpu.stopped then s.ppu else (s.ppu.tick s.params s.vram s.oam).1 := by
  unfold tick
  split_ifs <;> rfl

/-- Settles O47: bus writes keep the invariant register by register, T-cycles by the mode table of R602. -/
theorem stepKeepsPipeline : Obligations.StepKeepsPipeline := by
  intro s t h inv
  exact step_keeps (P := fun s => PpuInv s.ppu)
    (cpu := fun _ _ p => p)
    (write := fun _ a v p => memWrite_ppuInv a v p)
    (div := fun _ p => p)
    (ack := fun _ _ p => p)
    (tick := fun s p => by
      rw [tick_ppu]
      split_ifs
      · exact p
      · exact Ppu.tick_inv _ _ _ p)
    (ended := fun _ _ p => p) h inv

end Sys2Proof.Machine
end

section
/-! PROOF. Every step keeps the invariant of the synthesizer (R128, R704, R705, R707, R708, R710 to R714, R736). -/

namespace Sys2Proof.Machine

open Sys2Proof.Config

/-- The invariant of a synthesizer whose power is on, as everything but a write to NR52 leaves it. -/
structure PoweredInv (a : Apu) : Prop extends ApuInv a where
  power : a.power = true

/-- With the power on nothing is asked of a synthesizer without power. -/
theorem PoweredInv.not_off {a : Apu} (h : PoweredInv a) {P : Prop} (off : a.power = false) : P :=
  absurd (h.power.symm.trans off) (by decide)

/-- A bit field of `k + 1` bits is below `2 ^ (k + 1)` (R12). -/
theorem field_lt (v : Byte) (top low : Nat) : field v top low < 2 ^ (top + 1 - low) :=
  Nat.mod_lt _ (Nat.two_pow_pos _)

theorem squareReload_pos (p : BitVec 11) : 0 < squareReload p := by
  have := p.isLt
  unfold squareReload
  omega

theorem waveReload_pos (p : BitVec 11) : 0 < waveReload p := by
  have := p.isLt
  unfold waveReload
  omega

theorem noiseReload_pos (nr43 : Byte) : 0 < noiseReload nr43 := by
  unfold noiseReload noiseDivisor
  split
  · exact Nat.mul_pos (by decide) (Nat.two_pow_pos _)
  · next h => exact Nat.mul_pos (Nat.mul_pos (by decide) (Nat.pos_of_ne_zero h)) (Nat.two_pow_pos _)

/-- A length clock never raises the length (R711). -/
theorem lengthClock_le (nrx4 : Byte) (length : Nat) (on : Bool) : (lengthClock nrx4 length on).1 ≤ length := by
  unfold lengthClock
  split
  · exact Nat.sub_le _ _
  · exact Nat.le_refl _

/-- A channel that a length clock leaves on was on and has length left (R711). -/
theorem lengthClock_on {nrx4 : Byte} {length : Nat} {on : Bool} (left : on = true → 0 < length)
    (h : (lengthClock nrx4 length on).2 = true) : on = true ∧ 0 < (lengthClock nrx4 length on).1 := by
  unfold lengthClock at h ⊢
  split at h
  · next c =>
    simp only [Bool.and_eq_true, bne_iff_ne, ne_eq] at h
    rw [if_pos c]
    exact ⟨h.1, Nat.pos_of_ne_zero h.2⟩
  · next c =>
    rw [if_neg c]
    exact ⟨h, left h⟩

theorem Apu.clockLengths_inv {a : Apu} (h : PoweredInv a) : PoweredInv a.clockLengths :=
  have keep {nrx4 : Byte} {length : Nat} {on : Bool} {P : Prop} (c : on = true → 0 < length ∧ P)
      (e : (lengthClock nrx4 length on).2 = true) : 0 < (lengthClock nrx4 length on).1 ∧ P :=
    have left := lengthClock_on (fun o => (c o).1) e
    ⟨left.2, (c left.1).2⟩
  { h with
    length1 := (lengthClock_le ..).trans h.length1
    length2 := (lengthClock_le ..).trans h.length2
    length3 := (lengthClock_le ..).trans h.length3
    length4 := (lengthClock_le ..).trans h.length4
    on1 := keep h.on1
    on2 := keep h.on2
    on3 := keep h.on3
    on4 := keep h.on4
    powerOff := h.not_off }

theorem Apu.clockEnvelopes_inv {a : Apu} (h : PoweredInv a) : PoweredInv a.clockEnvelopes :=
  { h with powerOff := h.not_off }

/-- The sweep check may only turn channel 1 off (R713). -/
theorem Apu.sweepCheck_inv {a : Apu} (h : PoweredInv a) : PoweredInv a.sweepCheck := by
  unfold Apu.sweepCheck
  split
  · exact { h with on1 := fun e => (Bool.false_ne_true e).elim, powerOff := h.not_off }
  · exact h

theorem Apu.writeSweep_inv {a : Apu} (p : BitVec 11) (h : PoweredInv a) : PoweredInv (a.writeSweep p) :=
  { h with powerOff := h.not_off }

theorem Apu.sweepStep_inv {a : Apu} (h : PoweredInv a) : PoweredInv a.sweepStep := by
  unfold Apu.sweepStep
  simp only
  split_ifs
  · exact Apu.sweepCheck_inv (Apu.writeSweep_inv _ (Apu.sweepCheck_inv h))
  · exact Apu.sweepCheck_inv h
  · exact h

/-- The sweep timer is reloaded with 1 to 8 (R713). -/
theorem sweepReload_le (nr10 : Byte) : sweepReload nr10 ≤ 8 := by
  unfold sweepReload
  split
  · exact Nat.le_refl 8
  · exact (field_lt nr10 6 4).le

theorem Apu.clockSweep_inv {a : Apu} (h : PoweredInv a) : PoweredInv a.clockSweep := by
  unfold Apu.clockSweep
  split
  · exact Apu.sweepStep_inv { h with sweepTimer := sweepReload_le _, powerOff := h.not_off }
  · exact { h with sweepTimer := (Nat.sub_le _ _).trans h.sweepTimer, powerOff := h.not_off }

/-- The clocks of the frame sequencer (R710). -/
theorem Apu.fsClock_inv {a : Apu} (k : Nat) (h : PoweredInv a) : PoweredInv (a.fsClock k) := by
  have keep {c : Prop} [Decidable c] {x y : Apu} (hx : PoweredInv x) (hy : PoweredInv y) :
      PoweredInv (if c then x else y) := by split <;> assumption
  have lengths := keep (c := k % 2 = 0) (Apu.clockLengths_inv h) h
  have sweep := keep (c := k = 2 ∨ k = 6) (Apu.clockSweep_inv lengths) lengths
  exact keep (Apu.clockEnvelopes_inv sweep) sweep

theorem Apu.tickSequencer_inv {a : Apu} (h : PoweredInv a) : PoweredInv a.tickSequencer := by
  unfold Apu.tickSequencer
  split
  · have clocked := Apu.fsClock_inv a.fsStep h
    exact
      { clocked with
        counter := show 0 < fsPeriod by decide
        seqStep := Nat.mod_lt _ (by decide)
        powerOff := clocked.not_off }
  · next more =>
    exact
      { h with
        counter := Nat.lt_of_le_of_ne h.counter more
        powerOff := h.not_off }

/-- A square channel's timer stays above 0, and its tick changes neither length nor whether it is on (R705). -/
theorem Square.tick_keeps (p : BitVec 11) {c : Square} (h : 0 < c.freqTimer) :
    0 < (c.tick p).freqTimer ∧ (c.tick p).length = c.length ∧ (c.tick p).on = c.on := by
  unfold Square.tick
  split_ifs with on out
  · exact ⟨squareReload_pos p, rfl, rfl⟩
  · exact ⟨Nat.pos_of_ne_zero out, rfl, rfl⟩
  · exact ⟨h, rfl, rfl⟩

/-- The wave channel's timer likewise (R707). -/
theorem WaveChannel.tick_keeps (p : BitVec 11) {c : WaveChannel} (h : 0 < c.freqTimer) :
    0 < (c.tick p).freqTimer ∧ (c.tick p).length = c.length ∧ (c.tick p).on = c.on := by
  unfold WaveChannel.tick
  split_ifs with on out
  · exact ⟨waveReload_pos p, rfl, rfl⟩
  · exact ⟨Nat.pos_of_ne_zero out, rfl, rfl⟩
  · exact ⟨h, rfl, rfl⟩

/-- The noise channel's timer likewise (R708). -/
theorem NoiseChannel.tick_keeps (nr43 : Byte) {c : NoiseChannel} (h : 0 < c.freqTimer) :
    0 < (c.tick nr43).freqTimer ∧ (c.tick nr43).length = c.length ∧ (c.tick nr43).on = c.on := by
  unfold NoiseChannel.tick
  split_ifs with on out
  · exact ⟨noiseReload_pos nr43, rfl, rfl⟩
  · exact ⟨Nat.pos_of_ne_zero out, rfl, rfl⟩
  · exact ⟨h, rfl, rfl⟩

theorem Apu.tickChannels_inv {a : Apu} (h : PoweredInv a) : PoweredInv a.tickChannels := by
  obtain ⟨timer1, length1, on1⟩ := Square.tick_keeps a.regs.period1 h.timer1
  obtain ⟨timer2, length2, on2⟩ := Square.tick_keeps a.regs.period2 h.timer2
  obtain ⟨timer3, length3, on3⟩ := WaveChannel.tick_keeps a.regs.period3 h.timer3
  obtain ⟨timer4, length4, on4⟩ := NoiseChannel.tick_keeps a.regs.nr43 h.timer4
  exact
    { h with
      timer1 := timer1
      timer2 := timer2
      timer3 := timer3
      timer4 := timer4
      length1 := length1.trans_le h.length1
      length2 := length2.trans_le h.length2
      length3 := length3.trans_le h.length3
      length4 := length4.trans_le h.length4
      on1 := fun e => length1 ▸ h.on1 (on1 ▸ e)
      on2 := fun e => length2 ▸ h.on2 (on2 ▸ e)
      on3 := fun e => length3 ▸ h.on3 (on3 ▸ e)
      on4 := fun e => length4 ▸ h.on4 (on4 ▸ e)
      powerOff := h.not_off }

theorem Apu.tickSample_inv {a : Apu} (rate : Nat) (h : ApuInv a) : ApuInv (a.tickSample rate) :=
  { h with sample := Nat.mod_lt _ (by decide) }

/-- A T-cycle keeps the invariant of the synthesizer (R722). -/
theorem Apu.tick_inv {a : Apu} (rate : Nat) (h : ApuInv a) : ApuInv (a.tick rate) := by
  unfold Apu.tick
  split_ifs with on
  · exact Apu.tickSample_inv rate
      (Apu.tickChannels_inv (Apu.tickSequencer_inv { h with power := on })).toApuInv
  · exact Apu.tickSample_inv rate h

/-- A length that is 0 is loaded at a trigger with the channel's longest, `n` (R714). -/
theorem triggerLength_range {n length : Nat} (pos : 0 < n) (h : length ≤ n) :
    0 < (if length = 0 then n else length) ∧ (if length = 0 then n else length) ≤ n := by
  split <;> omega

theorem Apu.trigger1_inv {a : Apu} (h : PoweredInv a) : PoweredInv a.trigger1 := by
  obtain ⟨left, le⟩ := triggerLength_range (by decide) h.length1
  have triggered : PoweredInv
      { a with
        ch1 := a.ch1.trigger a.regs.nr12 a.regs.period1
        sweep :=
          { timer := sweepReload a.regs.nr10
            enabled := field a.regs.nr10 6 4 != 0 || field a.regs.nr10 2 0 != 0
            shadow := a.regs.period1 } } :=
    { h with
      length1 := le
      timer1 := squareReload_pos _
      sweepTimer := sweepReload_le _
      on1 := fun dac => ⟨left, dac⟩
      powerOff := h.not_off }
  unfold Apu.trigger1
  simp only
  split
  · exact Apu.sweepCheck_inv triggered
  · exact triggered

theorem Apu.trigger2_inv {a : Apu} (h : PoweredInv a) : PoweredInv a.trigger2 :=
  have ⟨left, le⟩ := triggerLength_range (by decide) h.length2
  { h with length2 := le, timer2 := squareReload_pos _, on2 := fun dac => ⟨left, dac⟩, powerOff := h.not_off }

theorem Apu.trigger3_inv {a : Apu} (h : PoweredInv a) : PoweredInv a.trigger3 :=
  have ⟨left, le⟩ := triggerLength_range (by decide) h.length3
  { h with length3 := le, timer3 := waveReload_pos _, on3 := fun dac => ⟨left, dac⟩, powerOff := h.not_off }

theorem Apu.trigger4_inv {a : Apu} (h : PoweredInv a) : PoweredInv a.trigger4 :=
  have ⟨left, le⟩ := triggerLength_range (by decide) h.length4
  { h with length4 := le, timer4 := noiseReload_pos _, on4 := fun dac => ⟨left, dac⟩, powerOff := h.not_off }

/-- A length field loads a counter with what is left up to `n` (R711). -/
theorem loadedLength_pos {n x : Nat} (h : x < n) : 0 < n - x := by omega

/-- Storing a byte with the power on keeps the invariant: a DAC that it turns off turns its channel off, and a length it
loads is above 0 (R704, R711, R714). -/
theorem Apu.store_inv {a : Apu} (r : SoundReg) (v : Byte) (h : PoweredInv a) :
    PoweredInv ({ a with regs := a.regs.set v r }.afterStore r v) := by
  have andOn {on dac : Bool} {P Q : Prop} (c : on = true → P ∧ Q) (e : (on && dac) = true) : P ∧ dac = true := by
    rw [Bool.and_eq_true] at e
    exact ⟨(c e.1).1, e.2⟩
  have trigger {f : Apu → Apu} {b : Apu} (keeps : ∀ {a}, PoweredInv a → PoweredInv (f a)) (stored : PoweredInv b) :
      PoweredInv (if v.getLsbD 7 then f b else b) := by
    split
    · exact keeps stored
    · exact stored
  have six : 64 - field v 5 0 ≤ 64 ∧ 0 < 64 - field v 5 0 := ⟨Nat.sub_le _ _, loadedLength_pos (field_lt v 5 0)⟩
  cases r with
  | nr11 => exact { h with length1 := six.1, on1 := fun e => ⟨six.2, (h.on1 e).2⟩, powerOff := h.not_off }
  | nr21 => exact { h with length2 := six.1, on2 := fun e => ⟨six.2, (h.on2 e).2⟩, powerOff := h.not_off }
  | nr31 =>
    exact
      { h with
        length3 := Nat.sub_le _ _
        on3 := fun e => ⟨loadedLength_pos v.isLt, (h.on3 e).2⟩
        powerOff := h.not_off }
  | nr41 => exact { h with length4 := six.1, on4 := fun e => ⟨six.2, (h.on4 e).2⟩, powerOff := h.not_off }
  | nr12 => exact { h with on1 := andOn h.on1, powerOff := h.not_off }
  | nr22 => exact { h with on2 := andOn h.on2, powerOff := h.not_off }
  | nr30 => exact { h with on3 := andOn h.on3, powerOff := h.not_off }
  | nr42 => exact { h with on4 := andOn h.on4, powerOff := h.not_off }
  | nr14 => exact trigger Apu.trigger1_inv { h with powerOff := h.not_off }
  | nr24 => exact trigger Apu.trigger2_inv { h with powerOff := h.not_off }
  | nr34 => exact trigger Apu.trigger3_inv { h with powerOff := h.not_off }
  | nr44 => exact trigger Apu.trigger4_inv { h with powerOff := h.not_off }
  | _ => exact { h with powerOff := h.not_off }

theorem Apu.powerOff_inv {a : Apu} (h : ApuInv a) : ApuInv a.powerOff :=
  have off {P : Prop} (e : false = true) : P := (Bool.false_ne_true e).elim
  { h with
    counter := show 0 < fsPeriod by decide
    seqStep := show 0 < 8 by decide
    length1 := Nat.zero_le _
    length2 := Nat.zero_le _
    length3 := Nat.zero_le _
    length4 := Nat.zero_le _
    on1 := off
    on2 := off
    on3 := off
    on4 := off
    powerOff := fun _ => ⟨rfl, rfl, rfl, rfl, rfl, rfl, rfl⟩ }

/-- A write to a sound register keeps the invariant (R736). -/
theorem Apu.writeReg_inv {a : Apu} (r : SoundReg) (v : Byte) (h : ApuInv a) : ApuInv (a.writeReg r v) := by
  have other : ApuInv (if a.power then { a with regs := a.regs.set v r }.afterStore r v else a) := by
    split_ifs with on
    · exact (Apu.store_inv r v { h with power := on }).toApuInv
    · exact h
  cases r with
  | nr52 =>
    show ApuInv (if v.getLsbD 7 then { a with power := true } else if a.power then a.powerOff else a)
    split_ifs
    · exact { h with powerOff := fun e => (Bool.false_ne_true e.symm).elim }
    · exact Apu.powerOff_inv h
    · exact h
  | _ => exact other

theorem memWrite_apuInv {s : State} (a : Word) (v : Byte) (h : ApuInv s.apu) : ApuInv (memWrite s a v).apu := by
  rcases memWrite_devices s a v with ⟨r, e⟩ | ⟨-, e, -⟩
  · rw [e]
    cases r with
    | sound r => exact Apu.writeReg_inv r v h
    | wave i => exact { h with }
    | _ => exact h
  · rw [e]; exact h

/-- What a T-cycle does to the synthesizer: nothing while the processor is stopped (R584, R860). -/
theorem tick_apu (s : State) : (tick s).apu = if s.cpu.stopped then s.apu else s.apu.tick s.params.sampleRate := by
  unfold tick
  split_ifs <;> rfl

/-- Settles O48: sound register writes keep the invariant, and so do the clocks of a T-cycle; they never turn a channel
on. -/
theorem stepKeepsSound : Obligations.StepKeepsSound := by
  intro s t h inv
  exact step_keeps (P := fun s => ApuInv s.apu)
    (cpu := fun _ _ p => p)
    (write := fun _ a v p => memWrite_apuInv a v p)
    (div := fun _ p => p)
    (ack := fun _ _ p => p)
    (tick := fun s p => by
      rw [tick_apu]
      split_ifs
      · exact p
      · exact Apu.tick_inv _ p)
    (ended := fun _ _ p => p) h inv

end Sys2Proof.Machine
end

section
/-! PROOF. Every step keeps the invariants of the serial port and the cartridge (R126, R224, R260, R264, R845, R846) and
what the image and the host fix (R100, R153, R880), and counts its T-cycles (R860). -/

namespace Sys2Proof.Machine

open Sys2Proof.Config

/-- A write to SC starts a transfer with both its bits set, and leaves none running otherwise (R845; log 24). -/
theorem Serial.writeSc_inv {p : Serial} (v : Byte) (h : SerialInv p) : SerialInv (p.writeSc v) := by
  unfold Serial.writeSc
  simp only
  split
  · next both =>
    rw [Bool.and_eq_true] at both
    exact ⟨Nat.le_refl 8, Nat.le_refl 512, fun _ => ⟨both.1, both.2, show 0 < 512 by decide⟩⟩
  · exact ⟨Nat.zero_le 8, h.timer, fun ne => absurd rfl ne⟩

/-- A T-cycle of a transfer counts the timer down or shifts a bit, and ends the transfer with the last one (R846). -/
theorem Serial.tick_inv {p : Serial} (h : SerialInv p) : SerialInv p.tick.1 := by
  have bits := h.bits
  unfold Serial.tick
  simp only
  split_ifs with idle counting last
  · exact h
  · obtain ⟨start, internal, -⟩ := h.busy idle
    exact ⟨bits, (Nat.sub_le _ _).trans h.timer, fun _ => ⟨start, internal, Nat.pos_of_ne_zero counting⟩⟩
  · exact ⟨(Nat.sub_le _ _).trans bits, Nat.zero_le _, fun ne => absurd last ne⟩
  · obtain ⟨start, internal, -⟩ := h.busy idle
    exact ⟨(Nat.sub_le _ _).trans bits, Nat.le_refl _, fun _ => ⟨start, internal, show 0 < 512 by decide⟩⟩

theorem memWrite_serialInv {s : State} (a : Word) (v : Byte) (h : SerialInv s.serial) :
    SerialInv (memWrite s a v).serial := by
  rcases memWrite_devices s a v with ⟨r, e⟩ | ⟨-, -, e⟩
  · rw [e]
    cases r with
    | sb => exact { h with }
    | sc => exact Serial.writeSc_inv v h
    | _ => exact h
  · rw [e]; exact h

/-- What a T-cycle does to the serial port: nothing while the processor is stopped (R584, R860). -/
theorem tick_serial (s : State) : (tick s).serial = if s.cpu.stopped then s.serial else s.serial.tick.1 := by
  unfold tick
  split_ifs <;> rfl

/-- A clock with its place in the second in range and the unused bits of both copies of DH at 0 (R260, R264). -/
structure ClockInv (k : Clock) : Prop where
  sub : k.sub < clockHz
  live : k.live.masked
  latched : k.latched.masked

/-- Every clock of a controller is in range. -/
def Controller.clockInv (ctrl : Controller) : Prop := ∀ r k, ctrl = .c r → r.clock = some k → ClockInv k

/-- The cartridge invariant is about the header's facts and the controller's clock. -/
theorem cartInv_iff (c : Cart) : CartInv c ↔ 0 < c.nrom ∧ (c.ramSize ≠ 0 → 0 < c.nram) ∧ c.ctrl.clockInv := by
  constructor
  · intro h
    exact ⟨h.banks, h.ramBanks, fun r k e f => have ⟨a, b, c⟩ := h.clock r k e f; ⟨a, b, c⟩⟩
  · rintro ⟨banks, ramBanks, clock⟩
    exact ⟨banks, ramBanks, fun r k e f => have ⟨a, b, c⟩ := clock r k e f; ⟨a, b, c⟩⟩

theorem Controller.clockInv_c {r : Mbc3} : (Controller.c r).clockInv ↔ ∀ k, r.clock = some k → ClockInv k := by
  constructor
  · exact fun h k => h r k rfl
  · rintro h _ k ⟨⟩
    exact h k

/-- A command to the controller moves no live clock register; it latches them at most (R261). -/
theorem Controller.writeControl_clockInv {ctrl : Controller} (a : Nat) (v : Byte) (h : ctrl.clockInv) :
    (ctrl.writeControl a v).clockInv := by
  cases ctrl with
  | c r =>
    show (Controller.c (r.writeControl a v)).clockInv
    rw [clockInv_c] at h ⊢
    unfold Mbc3.writeControl
    split_ifs with _ _ _ latch
    · exact h
    · exact h
    · exact h
    · intro k e
      obtain ⟨old, has, rfl⟩ := Option.map_eq_some_iff.mp e
      have before := h old has
      exact ⟨before.sub, before.live, before.live⟩
    · exact h
  | none | a | b | d => intro r k e; cases e

/-- A write to a clock register keeps the unused bits of DH at 0 (R260, R263). -/
theorem ClockRegs.set_masked {k : ClockRegs} (sel : Nat) (v : Byte) (h : k.masked) : (k.set sel v).masked := by
  unfold ClockRegs.set
  split_ifs
  iterate 4 exact h
  show v &&& 0xC1#8 &&& 0x3E#8 = 0#8
  rw [BitVec.and_assoc]
  exact BitVec.and_zero

theorem ClockInv.set {k : Clock} (sel : Nat) (v : Byte) (h : ClockInv k) : ClockInv (k.set sel v) where
  sub := by
    show (if sel = 8 then 0 else k.sub) < clockHz
    split
    · decide
    · exact h.sub
  live := ClockRegs.set_masked sel v h.live
  latched := h.latched

/-- The clock that an access to external RAM reaches is the controller's (R263). -/
theorem Cart.ramTarget_clock {c : Cart} {a sel : Nat} {k : Clock} (h : c.ramTarget a = .clock k sel) :
    ∃ r, c.ctrl = .c r ∧ r.clock = some k := by
  have cell : ∀ o bank, c.ramCell o bank a ≠ .clock k sel := by
    intro o bank
    unfold Cart.ramCell
    split <;> exact fun e => by cases e
  unfold Cart.ramTarget at h
  cases ctrl : c.ctrl with
  | none => rw [ctrl] at h; exact absurd h (cell _ _)
  | a r => rw [ctrl] at h; exact absurd h (cell _ _)
  | b r =>
    rw [ctrl] at h
    simp only at h
    split at h <;> cases h
  | c r =>
    rw [ctrl] at h
    simp only [Cart.mbc3Target] at h
    split_ifs at h
    · exact absurd h (cell _ _)
    · cases clock : r.clock with
      | none => rw [clock] at h; cases h
      | some k' => rw [clock] at h; cases h; exact ⟨r, rfl, clock⟩
  | d r => rw [ctrl] at h; exact absurd h (cell _ _)

/-- A write to external RAM keeps the cartridge invariant: the only clock it writes is set within its bits (R263). -/
theorem Cart.writeRam_inv {c : Cart} (a : Nat) (v : Byte) (h : CartInv c) : CartInv (c.writeRam a v) := by
  unfold Cart.writeRam
  cases target : c.ramTarget a with
  | cell i => exact { h with }
  | nibble i => exact { h with }
  | nothing => exact h
  | clock k sel =>
    obtain ⟨r, isC, has⟩ := Cart.ramTarget_clock target
    obtain ⟨banks, ramBanks, clock⟩ := (cartInv_iff c).mp h
    refine (cartInv_iff _).mpr ⟨banks, ramBanks, ?_⟩
    show (c.ctrl.setClock (k.set sel v)).clockInv
    rw [isC]
    refine Controller.clockInv_c.mpr fun k' e => ?_
    obtain ⟨_, _, rfl⟩ := Option.map_eq_some_iff.mp e
    exact (clock r k isC has).set sel v

/-- The day counter moves within DH's stored bits (R264). -/
theorem ClockRegs.nextDay_masked {k : ClockRegs} (h : k.masked) : k.nextDay.masked := by
  have masked_carry : ∀ d : Byte, d &&& 0x3E#8 = 0#8 → (d &&& 0xFE#8 ||| 0x80#8) &&& 0x3E#8 = 0#8 := by decide
  have masked_next : ∀ d : Byte, d &&& 0x3E#8 = 0#8 → (d ||| 0x01#8) &&& 0x3E#8 = 0#8 := by decide
  unfold ClockRegs.nextDay
  split_ifs
  · exact h
  · exact masked_carry k.dh h
  · exact masked_next k.dh h

/-- A second passes within DH's stored bits (R264). -/
theorem ClockRegs.tickSecond_masked {k : ClockRegs} (h : k.masked) : k.tickSecond.masked := by
  unfold ClockRegs.tickSecond
  simp only
  split_ifs
  · exact h
  · exact h
  · exact h
  · exact ClockRegs.nextDay_masked h

theorem Clock.tick_inv {k : Clock} (h : ClockInv k) : ClockInv k.tick := by
  unfold Clock.tick
  split_ifs with halted second
  · exact h
  · exact ⟨show 0 < clockHz by decide, ClockRegs.tickSecond_masked h.live, h.latched⟩
  · exact ⟨Nat.lt_of_le_of_ne h.sub second, h.live, h.latched⟩

theorem Cart.tick_inv {c : Cart} (h : CartInv c) : CartInv c.tick := by
  obtain ⟨banks, ramBanks, clock⟩ := (cartInv_iff c).mp h
  refine (cartInv_iff _).mpr ⟨banks, ramBanks, ?_⟩
  show c.ctrl.tick.clockInv
  cases ctrl : c.ctrl with
  | c r =>
    rw [ctrl, Controller.clockInv_c] at clock
    refine Controller.clockInv_c.mpr fun k e => ?_
    obtain ⟨old, has, rfl⟩ := Option.map_eq_some_iff.mp e
    exact Clock.tick_inv (clock old has)
  | none | a | b | d => intro r k e; cases e

/-- What a bus write does to the cartridge: a command, a write to external RAM, or nothing (R150, R153). -/
theorem memWrite_cart (s : State) (a : Word) (v : Byte) :
    (∃ n, (memWrite s a v).cart = s.cart.writeControl n v) ∨ (∃ n, (memWrite s a v).cart = s.cart.writeRam n v) ∨
      (memWrite s a v).cart = s.cart := by
  unfold memWrite
  cases region a with
  | rom n => exact .inl ⟨n, rfl⟩
  | eram n => exact .inr (.inl ⟨n, rfl⟩)
  | io i => exact .inr (.inr (ioWrite_keeps s v (ioReg i)).1)
  | vram i =>
    simp only [writeRegion]
    split <;> exact .inr (.inr rfl)
  | oam i =>
    simp only [writeRegion]
    split <;> exact .inr (.inr rfl)
  | wram | hram | unusable | ie => exact .inr (.inr rfl)

theorem memWrite_cartInv {s : State} (a : Word) (v : Byte) (h : CartInv s.cart) : CartInv (memWrite s a v).cart := by
  rcases memWrite_cart s a v with ⟨n, e⟩ | ⟨n, e⟩ | e
  · rw [e]
    obtain ⟨banks, ramBanks, clock⟩ := (cartInv_iff s.cart).mp h
    exact (cartInv_iff _).mpr ⟨banks, ramBanks, Controller.writeControl_clockInv n v clock⟩
  · rw [e]; exact Cart.writeRam_inv n v h
  · rw [e]; exact h

/-- Settles O49: bus writes and T-cycles keep both invariants; nothing else in a step reaches port or cartridge. -/
theorem stepKeepsPorts : Obligations.StepKeepsPorts := by
  intro s t h serial cart
  exact step_keeps (P := fun s => SerialInv s.serial ∧ CartInv s.cart)
    (cpu := fun _ _ p => p)
    (write := fun _ a v p => ⟨memWrite_serialInv a v p.1, memWrite_cartInv a v p.2⟩)
    (div := fun _ p => p)
    (ack := fun _ _ p => p)
    (tick := fun s p => by
      rw [tick_serial, tick_cart]
      split_ifs
      · exact ⟨p.1, Cart.tick_inv p.2⟩
      · exact ⟨Serial.tick_inv p.1, Cart.tick_inv p.2⟩)
    (ended := fun _ _ p => p) h ⟨serial, cart⟩

/-- What never changes stays so through two changes. -/
theorem SameFixed.trans {s t u : State} (h : SameFixed s t) (g : SameFixed t u) : SameFixed s u := by
  obtain ⟨rom, nrom, nram, size, battery, params, buttons, prev, stop⟩ := h
  obtain ⟨rom', nrom', nram', size', battery', params', buttons', prev', stop'⟩ := g
  exact ⟨rom'.trans rom, nrom'.trans nrom, nram'.trans nram, size'.trans size, battery'.trans battery,
    params'.trans params, buttons'.trans buttons, prev'.trans prev, stop'.trans stop⟩

/-- A property of what is outside the processor that bus writes, the divider's reset and an acknowledgement keep is kept
by the processor step. -/
theorem cpuStep_keeps {P : State → Prop} (cpu : ∀ s c, P s → P { s with cpu := c })
    (write : ∀ s a v, P s → P (memWrite s a v)) (div : ∀ s, P s → P (divReset s))
    (ack : ∀ s k, P s → P (s.acknowledge k)) {s u : State} (h : cpuStep s = .next u) (p : P s) : P u := by
  rcases cpuStep_cases h with ⟨-, rfl⟩ | ⟨-, -, rfl⟩ | ⟨-, -, -, rfl⟩ | ⟨-, -, v, hv, rfl⟩
  · exact cpu s _ p
  · exact cpu s _ p
  · rw [takeInterrupt_eq]
    exact ack _ _ (cpu _ _ (write _ _ _ (write _ _ _ (cpu s _ p))))
  · obtain ⟨k, -, d⟩ := exec_next hv
    have ran : P v := d.keeps cpu write div (cpu _ _ (cpu s _ p))
    unfold State.afterInstr State.countDownIme
    split_ifs
    · exact ran
    · exact ran
    · exact cpu _ _ ran
    · exact cpu _ _ ran

/-- The processor step leaves the image, the parameters, the host's fields and the count of T-cycles. -/
theorem cpuStep_fixed {s u : State} (h : cpuStep s = .next u) : SameFixed s u ∧ u.tCycles = s.tCycles :=
  cpuStep_keeps (P := fun u => SameFixed s u ∧ u.tCycles = s.tCycles)
    (cpu := fun _ _ p => p)
    (write := fun x a v p =>
      have ⟨fixed, _, count⟩ := memWrite_fixed x a v
      ⟨p.1.trans fixed, count.trans p.2⟩)
    (div := fun _ p => p)
    (ack := fun _ _ p => p)
    h ⟨⟨rfl, rfl, rfl, rfl, rfl, rfl, rfl, rfl, rfl⟩, rfl⟩

theorem advance_fixed (n : Nat) (s : State) : SameFixed s (advance n s) ∧ (advance n s).tCycles = s.tCycles + n := by
  induction n generalizing s with
  | zero => exact ⟨⟨rfl, rfl, rfl, rfl, rfl, rfl, rfl, rfl, rfl⟩, rfl⟩
  | succ n ih =>
    obtain ⟨fixed, count⟩ := ih (tick s)
    have one : SameFixed s (tick s) := by simp [SameFixed, Cart.tick]
    exact ⟨one.trans fixed, by rw [advance, count, tick_tCycles]; omega⟩

/-- Settles O50: the processor step leaves the T-cycle count, and the iteration adds `4n` unless it was fatal. -/
theorem stepKeepsImage : Obligations.StepKeepsImage := by
  intro s t h
  obtain ⟨-, u, hu, rfl⟩ := step_cases h
  obtain ⟨fixed, count⟩ := cpuStep_fixed hu
  rcases finishIteration_cases u with ⟨fatal, e⟩ | ⟨fatal, m, e⟩
  · rw [e]
    exact ⟨fixed, fun ok => by simp [ok] at fatal, fun _ => count⟩
  · obtain ⟨rest, more⟩ := advance_fixed (tPerM * u.cpu.cycles) u
    rw [finishIteration_cpu]
    refine ⟨?_, fun _ => ?_, fun raised => absurd fatal raised⟩
    · rw [e]; exact fixed.trans rest
    · rw [e]; exact more.trans (by rw [count]; rfl)

end Sys2Proof.Machine
end

section
/-! PROOF. The address map and the plain registers (R71 to R92, R150 to R165). -/

namespace Sys2Proof.Machine

open Sys2Proof.Config

/-- Addresses of one region read and write alike. -/
theorem bus_congr {a b : Word} (h : region a = region b) (s : State) (v : Byte) :
    memRead s a = memRead s b ∧ memWrite s a v = memWrite s b v := by
  unfold memRead memWrite
  rw [h]
  exact ⟨rfl, rfl⟩

/-- The echo is WRAM 0x2000 below (R157). -/
theorem region_echo_eq {a : Word} (l : 0xE000 ≤ a.toNat) (h : a.toNat < 0xFE00) :
    region a = region (a - 0x2000#16) := by
  have below : (a - 0x2000#16).toNat = a.toNat - 0x2000 := by bv_omega
  have offset : a.toNat - 0xE000 = a.toNat - 0x2000 - 0xC000 := by omega
  rw [region_echo l h, region_wram (by omega) (by omega), below, offset]

/-- VRAM and OAM while the pixel pipeline blocks them (R154, R164). -/
theorem bus_blocked {s : State} {a : Word} (v : Byte) (b : s.ppu.blocked = true)
    (h : (0x8000 ≤ a.toNat ∧ a.toNat < 0xA000) ∨ (0xFE00 ≤ a.toNat ∧ a.toNat < 0xFEA0)) :
    memRead s a = s.params.sentinel ∧ memWrite s a v = s := by
  unfold memRead memWrite
  rcases h with ⟨l, u⟩ | ⟨l, u⟩
  · rw [region_vram l u]
    exact ⟨if_pos b, if_pos b⟩
  · rw [region_oam l u]
    exact ⟨if_pos b, if_pos b⟩

/-- The unusable block (R159). -/
theorem bus_unusable (s : State) {a : Word} (v : Byte) (l : 0xFEA0 ≤ a.toNat) (h : a.toNat < 0xFF00) :
    memRead s a = s.params.sentinel ∧ memWrite s a v = s := by
  unfold memRead memWrite
  rw [region_unusable l h]
  exact ⟨rfl, rfl⟩

/-- The I/O offsets without a register (R92; log 11). -/
theorem ioReg_unused :
    ∀ i < 0x80, i = 0x03 ∨ (0x08 ≤ i ∧ i ≤ 0x0E) ∨ i = 0x15 ∨ i = 0x1F ∨ (0x27 ≤ i ∧ i ≤ 0x2F) ∨ 0x4C ≤ i →
      ioReg i = .unused := by
  decide

/-- The I/O addresses without a register (R92). -/
theorem bus_unused (s : State) {a : Word} (v : Byte)
    (h : a.toNat = 0xFF03 ∨ (0xFF08 ≤ a.toNat ∧ a.toNat ≤ 0xFF0E) ∨ a.toNat = 0xFF15 ∨ a.toNat = 0xFF1F ∨
      (0xFF27 ≤ a.toNat ∧ a.toNat ≤ 0xFF2F) ∨ (0xFF4C ≤ a.toNat ∧ a.toNat ≤ 0xFF7F)) :
    memRead s a = s.params.sentinel ∧ memWrite s a v = s := by
  have position : a.toNat = 0xFF00 + (a.toNat - 0xFF00) := by omega
  have unused := ioReg_unused (a.toNat - 0xFF00) (by omega) (by omega)
  exact ⟨memRead_io position (by omega) unused s, memWrite_io position (by omega) unused s v⟩

/-- The address of an I/O offset (R150). -/
def ioAddress (i : Nat) : Word := BitVec.ofNat 16 (0xFF00 + i)

theorem ioAddress_toNat {i : Nat} (h : i < 0x80) : (ioAddress i).toNat = 0xFF00 + i := by
  rw [ioAddress, BitVec.toNat_ofNat]
  omega

/-- A bus read at an I/O offset (R162). -/
theorem memRead_ioAddress (i : Nat) (s : State) (h : i < 0x80 := by decide) :
    memRead s (ioAddress i) = ioRead s (ioReg i) :=
  memRead_io (ioAddress_toNat h) h rfl s

/-- A bus write at an I/O offset (R163). -/
theorem memWrite_ioAddress (i : Nat) (s : State) (v : Byte) (h : i < 0x80 := by decide) :
    memWrite s (ioAddress i) v = ioWrite s v (ioReg i) :=
  memWrite_io (ioAddress_toNat h) h rfl s v

/-- I/O registers read one after another (R162). -/
theorem map_memRead_ioAddress (s : State) {is : List Nat} (h : ∀ i ∈ is, i < 0x80) :
    (is.map ioAddress).map (memRead s) = (is.map ioReg).map (ioRead s) := by
  simp only [List.map_map]
  exact List.map_congr_left fun i mem => memRead_ioAddress i s (h i mem)

/-- The registers that read as stored (R73 to R88). -/
theorem map_memRead_plain (s : State) :
    [0xFF01#16, 0xFF05#16, 0xFF06#16, 0xFF40#16, 0xFF42#16, 0xFF43#16, 0xFF44#16, 0xFF45#16, 0xFF46#16, 0xFF47#16,
        0xFF48#16, 0xFF49#16, 0xFF4A#16, 0xFF4B#16].map (memRead s) =
      [s.serial.sb, s.timer.tima, s.timer.tma, s.ppu.lcdc, s.ppu.scy, s.ppu.scx, s.ppu.ly, s.ppu.lyc, s.ppu.dma,
        s.ppu.bgp, s.ppu.obp0, s.ppu.obp1, s.ppu.wy, s.ppu.wx] :=
  map_memRead_ioAddress s (is := [0x01, 0x05, 0x06, 0x40, 0x42, 0x43, 0x44, 0x45, 0x46, 0x47, 0x48, 0x49, 0x4A, 0x4B])
    (by decide)

/-- SC as a number (R74). -/
theorem Serial.readSc_toNat (p : Serial) : p.readSc.toNat = 126 + 128 * bit p.start + bit p.internal := by
  unfold Serial.readSc
  cases p.start <;> cases p.internal <;> rfl

/-- TAC over the ones of its unused bits, as a number (R78). -/
theorem readTac_toNat (t : BitVec 3) : (0xF8#8 ||| t.setWidth 8).toNat = 248 + t.toNat := by
  revert t; decide

/-- IF over the ones of its unused bits, as a number (R79). -/
theorem readIf_toNat (f : BitVec 5) : (0xE0#8 ||| f.setWidth 8).toNat = 224 + f.toNat := by
  revert f; decide

/-- A run of bits as a number. -/
theorem extractLsb'_eq_ofNat {n : Nat} (x : BitVec n) (start len : Nat) :
    x.extractLsb' start len = BitVec.ofNat len (x.toNat / 2 ^ start) := by
  rw [← Nat.shiftRight_eq_div_pow]
  rfl

/-- DIV as a number (R75). -/
theorem readDiv_toNat (d : BitVec 16) : (d.extractLsb' 8 8).toNat = d.toNat / 256 := by
  have lt := d.isLt
  rw [extractLsb'_eq_ofNat, BitVec.toNat_ofNat]
  omega

/-- What IF stores of a written byte (R79). -/
theorem storedIf_eq_ofNat (v : Byte) : v.extractLsb' 0 5 = BitVec.ofNat 5 v.toNat := by
  rw [extractLsb'_eq_ofNat, Nat.pow_zero, Nat.div_one]

/-- Wave RAM's offsets in the I/O block (R91). -/
theorem ioReg_wave {i : Nat} (l : 0x30 ≤ i) (h : i < 0x40) : ioReg i = .wave (i - 0x30) := by
  interval_cases i <;> rfl

/-- A write to wave RAM (R91). -/
theorem memWrite_wave (s : State) {a : Word} (v : Byte) (l : 0xFF30 ≤ a.toNat) (h : a.toNat < 0xFF40) :
    memWrite s a v = { s with apu := { s.apu with wave := s.apu.wave.write (a.toNat - 0xFF30) v } } := by
  have e := memWrite_io (a := a) (i := a.toNat - 0xFF00) (by omega) (by omega) (ioReg_wave (by omega) (by omega)) s v
  rw [e, show a.toNat - 0xFF00 - 0x30 = a.toNat - 0xFF30 by omega]
  rfl

theorem memRead_wave (s : State) {a : Word} (l : 0xFF30 ≤ a.toNat) (h : a.toNat < 0xFF40) :
    memRead s a = s.apu.wave.read (a.toNat - 0xFF30) := by
  have e := memRead_io (a := a) (i := a.toNat - 0xFF00) (by omega) (by omega) (ioReg_wave (by omega) (by omega)) s
  rw [e, show a.toNat - 0xFF00 - 0x30 = a.toNat - 0xFF30 by omega]
  rfl

/-- A write to one cell of wave RAM shows at its own address alone. -/
theorem memRead_wave_other (s : State) {a b : Word} (v : Byte) (l : 0xFF30 ≤ a.toNat) (h : a.toNat < 0xFF40)
    (ne : b ≠ a) : memRead (memWrite s a v) b = memRead s b := by
  rw [memWrite_wave s v l h]
  unfold memRead
  cases hb : region b with
  | io j =>
    obtain ⟨position, -⟩ := region_eq_io hb
    show ioRead _ (ioReg j) = ioRead s (ioReg j)
    cases hr : ioReg j with
    | wave k =>
      obtain ⟨jk, -⟩ := ioReg_wave_eq hr
      refine Mem.read_write_other v fun e => ne (BitVec.eq_of_toNat_eq ?_)
      omega
    | _ => rfl
  | _ => rfl

/-- What is written to wave RAM is read back (R91). -/
theorem memRead_wave_same {s : State} {a : Word} (v : Byte) (l : 0xFF30 ≤ a.toNat) (h : a.toNat < 0xFF40)
    (inv : MemoryInv s) : memRead (memWrite s a v) a = v := by
  have canonical := inv.wave
  rw [Mem.fits, Bool.and_eq_true] at canonical
  rw [memRead_wave _ l h, memWrite_wave s v l h]
  exact Mem.read_write_same _ v canonical.1

/-- IE reads back whole (R71). -/
theorem memRead_ie_same (s : State) (v : Byte) : memRead (memWrite s 0xFFFF#16 v) 0xFFFF#16 = v := by
  have ie : region 0xFFFF#16 = .ie := by decide
  rw [memRead, memWrite, ie]
  rfl

/-- Settles O55, region by region of the address map and register by register of the I/O block. -/
theorem busRegions : Obligations.BusRegions := by
  intro s a v
  obtain ⟨⟨rom, -⟩, -⟩ := memWrite_fixed s a v
  refine ⟨?echo, ?blocked, bus_unusable s v, bus_unused s v, ?ly, memRead_ie_same s v, rom, map_memRead_plain s, ?sc,
    ?div, ?tac, ?intf, ?sb, ?tima, ?tma, ?storeIf, ?scy, ?scx, ?bgp, ?obp0, ?obp1, ?wy, ?wx, ?wave⟩
  case echo => exact fun l h => bus_congr (region_echo_eq l h) s v
  case blocked => exact fun on mode h => bus_blocked v (by simp [Ppu.blocked, on, mode]) h
  case ly => exact memWrite_ioAddress 0x44 s v
  case sc => exact (congrArg BitVec.toNat (memRead_ioAddress 0x02 s)).trans s.serial.readSc_toNat
  case div => exact (congrArg BitVec.toNat (memRead_ioAddress 0x04 s)).trans (readDiv_toNat s.timer.div)
  case tac => exact (congrArg BitVec.toNat (memRead_ioAddress 0x07 s)).trans (readTac_toNat s.timer.tac)
  case intf => exact (congrArg BitVec.toNat (memRead_ioAddress 0x0F s)).trans (readIf_toNat s.intf)
  case storeIf => rw [← storedIf_eq_ofNat]; exact memWrite_ioAddress 0x0F s v
  case sb => exact memWrite_ioAddress 0x01 s v
  case tima => exact memWrite_ioAddress 0x05 s v
  case tma => exact memWrite_ioAddress 0x06 s v
  case scy => exact memWrite_ioAddress 0x42 s v
  case scx => exact memWrite_ioAddress 0x43 s v
  case bgp => exact memWrite_ioAddress 0x47 s v
  case obp0 => exact memWrite_ioAddress 0x48 s v
  case obp1 => exact memWrite_ioAddress 0x49 s v
  case wy => exact memWrite_ioAddress 0x4A s v
  case wx => exact memWrite_ioAddress 0x4B s v
  case wave =>
    exact fun l h => ⟨memWrite_wave s v l h, memRead_wave_same v l h, fun b ne => memRead_wave_other s v l h ne⟩

end Sys2Proof.Machine
end

section
/-! PROOF. The registers of the LCD (R607, R610, R611, R615, R616), P1 and the buttons (R72, R850, R851), and saving and
restoring the state (R880, R882). -/

namespace Sys2Proof.Machine

open Sys2Proof.Config

/-- A request made under a condition `c` (R605, R615). -/
theorem or_irqIf {c : Bool} {p : Prop} [Decidable p] (x m : BitVec 5) (h : c = true ↔ p) :
    x ||| irqIf c m = if p then x ||| m else x := by
  unfold irqIf
  by_cases hp : p
  · rw [if_pos hp, if_pos (h.mpr hp)]
  · rw [if_neg hp, if_neg (fun e => hp (h.mp e)), BitVec.or_zero]

/-- The machine after the coincidence flag is recomputed: a new match that STAT enables is requested (R615). -/
theorem State.putPpu_updateCoincidence (s : State) (p : Ppu) :
    s.putPpu p.updateCoincidence =
      { s with
        ppu := { p with coincidence := p.ly == p.lyc }
        intf :=
          if p.ly = p.lyc ∧ p.coincidence = false ∧ p.statSel.getLsbD 3 = true ∧ p.lcdOn = true then s.intf ||| 0x02#5
          else s.intf } := by
  have request := or_irqIf s.intf irqStat
    (c := p.ly == p.lyc && !p.coincidence && p.statSel.getLsbD 3 && p.lcdOn)
    (p := p.ly = p.lyc ∧ p.coincidence = false ∧ p.statSel.getLsbD 3 = true ∧ p.lcdOn = true)
    (by simp only [Bool.and_eq_true, beq_iff_eq, Bool.not_eq_true', and_assoc])
  exact congrArg (fun m => { s with ppu := { p with coincidence := p.ly == p.lyc }, intf := m }) request

/-- A write to LCDC on the bus (R80). -/
theorem memWrite_lcdc (s : State) (v : Byte) : memWrite s 0xFF40#16 v = s.putPpu (s.ppu.writeLcdc v) :=
  memWrite_ioAddress 0x40 s v

/-- A write to LYC on the bus (R84). -/
theorem memWrite_lyc (s : State) (v : Byte) : memWrite s 0xFF45#16 v = s.putPpu (s.ppu.writeLyc v) :=
  memWrite_ioAddress 0x45 s v

/-- A write to STAT on the bus (R81). -/
theorem memWrite_stat (s : State) (v : Byte) :
    memWrite s 0xFF41#16 v = { s with ppu := { s.ppu with statSel := v.extractLsb' 3 4 } } :=
  memWrite_ioAddress 0x41 s v

/-- Turning the LCD off (R610). -/
theorem Ppu.writeLcdc_off {p : Ppu} {v : Byte} (on : p.lcdOn = true) (off : v.getLsbD 7 = false) :
    p.writeLcdc v =
      ({ p with lcdc := v, ly := 0#8, dot := 0, mode := .hblank, coincidence := (0#8 : Byte) == p.lyc }, 0#5) := by
  rw [Ppu.writeLcdc, on, off]
  rfl

/-- Turning the LCD on (R610). -/
theorem Ppu.writeLcdc_on {p : Ppu} {v : Byte} (off : p.lcdOn = false) (on : v.getLsbD 7 = true) :
    p.writeLcdc v = { p with lcdc := v, ly := 0#8, dot := 0, mode := .oamScan }.updateCoincidence := by
  rw [Ppu.writeLcdc, on, off]
  rfl

/-- A write to LCDC that leaves bit 7 (R610). -/
theorem Ppu.writeLcdc_same {p : Ppu} {v : Byte} (same : p.lcdOn = v.getLsbD 7) :
    p.writeLcdc v = ({ p with lcdc := v }, 0#5) := by
  rw [Ppu.writeLcdc, same]
  cases v.getLsbD 7 <;> rfl

/-- The composition of STAT as a number (R607). -/
theorem Ppu.readStat_toNat (p : Ppu) :
    p.readStat.toNat =
      128 + 8 * p.statSel.toNat + 4 * bit p.coincidence +
        (match p.mode with | .hblank => 0 | .vblank => 1 | .oamScan => 2 | .transfer => 3) := by
  have composed : ∀ (m : Mode) (sel : BitVec 4) (c : Bool),
      (0x80#8 ||| (sel.setWidth 8 <<< 3) ||| (if c then 0x04#8 else 0x00#8) ||| m.number).toNat =
        128 + 8 * sel.toNat + 4 * bit c +
          (match m with | .hblank => 0 | .vblank => 1 | .oamScan => 2 | .transfer => 3) := by
    intro m
    cases m <;> decide
  exact composed p.mode p.statSel p.coincidence

/-- Settles O53, through what a write to LCDC does at each change of its bit 7 and the recomputed coincidence flag. -/
theorem lcdRegisters : Obligations.LcdRegisters := by
  intro s v
  refine ⟨fun on off => ?_, fun off on => ?_, fun same => ?_, ?_, memWrite_stat s v, ?_, fun off => ?_⟩
  · rw [memWrite_lcdc, Ppu.writeLcdc_off on off, BEq.comm]
    simp [State.putPpu]
  · have lit : { s.ppu with lcdc := v, ly := 0#8, dot := 0, mode := .oamScan }.lcdOn = true := on
    rw [memWrite_lcdc, Ppu.writeLcdc_on off on, State.putPpu_updateCoincidence]
    simp only [lit, and_true, BEq.comm (a := s.ppu.lyc), eq_comm (a := s.ppu.lyc)]
  · rw [memWrite_lcdc, Ppu.writeLcdc_same same]
    simp [State.putPpu]
  · exact (memWrite_lyc s v).trans (State.putPpu_updateCoincidence s { s.ppu with lyc := v })
  · exact (congrArg BitVec.toNat (memRead_ioAddress 0x41 s)).trans s.ppu.readStat_toNat
  · rw [Ppu.tick, off]
    rfl

/-- A bit of a low half built from two rows of four lines, each pulled to 0 while it is selected (R850). -/
theorem rowsLow_getLsbD (dirs acts : BitVec 4) (d a : Bool) {k : Nat} (h : k < 4) :
    ((if d then 0xF#4 else ~~~dirs) &&& (if a then 0xF#4 else ~~~acts)).getLsbD k =
      !((!d && dirs.getLsbD k) || (!a && acts.getLsbD k)) := by
  have ones : (0xF#4 : BitVec 4).getLsbD k = true := by interval_cases k <;> rfl
  cases d <;> cases a <;> simp [h, ones]

/-- The low half of P1 (R850). -/
theorem State.readP1_low (s : State) {k : Nat} (h : k < 4) :
    s.readP1.getLsbD k =
      !((!s.p1.getLsbD 0 && s.buttons.getLsbD k) || (!s.p1.getLsbD 1 && s.buttons.getLsbD (k + 4))) := by
  have row (start : Nat) : (s.buttons.extractLsb' start 4).getLsbD k = s.buttons.getLsbD (start + k) := by
    simp [h]
  have low :=
    rowsLow_getLsbD (s.buttons.extractLsb' 0 4) (s.buttons.extractLsb' 4 4) (s.p1.getLsbD 0) (s.p1.getLsbD 1) h
  rw [row, row, Nat.zero_add, Nat.add_comm 4 k] at low
  rw [← low, State.readP1, BitVec.getLsbD_append]
  simp [h]

/-- The high half of P1: the selected rows under two ones (R72). -/
theorem State.readP1_high (s : State) (k : Nat) : s.readP1.getLsbD (4 + k) = (0b11#2 ++ s.p1).getLsbD k := by
  rw [State.readP1, BitVec.getLsbD_append]
  simp

/-- A mask presses a button exactly when it has a bit that the old one has not (R851). -/
theorem presses_iff (new old : Byte) :
    (new &&& ~~~old != 0#8) = true ↔ ∃ k < 8, new.getLsbD k = true ∧ old.getLsbD k = false := by
  rw [bne_iff_ne, ne_eq, BitVec.eq_of_getLsbD_eq_iff]
  push Not
  exact exists_congr fun k => and_congr_right fun lt => by simp [lt]

/-- Settles O60: P1 bit by bit, a press edge as a request, and a restore that gives back what was saved, the image being
the same by `stepKeepsImage`. -/
theorem buttonsAndSavedStates : Obligations.ButtonsAndSavedStates := by
  intro s t m v
  have high (k : Nat) : (memRead s 0xFF00#16).getLsbD (4 + k) = (0b11#2 ++ s.p1).getLsbD k :=
    (congrArg (·.getLsbD (4 + k)) (memRead_ioAddress 0x00 s)).trans (s.readP1_high k)
  refine ⟨rfl, ?same, ?stepped, memWrite_ioAddress 0x00 s v, ?low, ?bit4, ?bit5, ?bit6, ?bit7, ?buttons⟩
  case same =>
    intro params ended
    rw [State.restore, params, ended]
    rfl
  case stepped =>
    intro h
    obtain ⟨⟨rom, nrom, -, -, -, params, -⟩, -⟩ := stepKeepsImage s t h
    constructor
    · simp [State.mayRestore, rom, nrom]
    · rw [State.restore, params]
      rfl
  case low => exact fun k h => (congrArg (·.getLsbD k) (memRead_ioAddress 0x00 s)).trans (s.readP1_low h)
  case bit4 => exact (high 0).trans BitVec.getLsbD_append
  case bit5 => exact (high 1).trans BitVec.getLsbD_append
  case bit6 => exact (high 2).trans BitVec.getLsbD_append
  case bit7 => exact (high 3).trans BitVec.getLsbD_append
  case buttons =>
    have request := or_irqIf s.intf irqJoypad (presses_iff m s.buttons)
    exact congrArg (fun f => { s with buttonsPrev := s.buttons, buttons := m, intf := f }) request

end Sys2Proof.Machine
end

section
/-! PROOF. The sound registers (R90, R163, R704, R705, R707, R708, R711, R713, R714, R735, R736). -/

namespace Sys2Proof.Machine

open Sys2Proof.Config

/-- Each sound register's address lies in the I/O block and selects it (R90). -/
theorem soundAddresses_ioReg :
    ∀ x ∈ soundAddresses, x.1 = ioAddress (x.1.toNat % 0x80) ∧ ioReg (x.1.toNat % 0x80) = .sound x.2 := by
  decide

/-- A sound register on the bus (R90, R163). -/
theorem bus_sound (s : State) (v : Byte) {x : Word × SoundReg} (mem : x ∈ soundAddresses) :
    memRead s x.1 = s.apu.readReg x.2 ∧ memWrite s x.1 v = { s with apu := s.apu.writeReg x.2 v } := by
  obtain ⟨address, register⟩ := soundAddresses_ioReg x mem
  have lt : x.1.toNat % 0x80 < 0x80 := Nat.mod_lt _ (by decide)
  rw [address, memRead_ioAddress _ s lt, memWrite_ioAddress _ s v lt, register]
  exact ⟨rfl, rfl⟩

/-- The masks of R90 are those the reads use. -/
theorem soundMasks_mask : ∀ x ∈ soundMasks, x.1 ≠ .nr52 ∧ x.1.mask = x.2 := by decide

/-- The read value of a stored register (R90). -/
theorem Apu.readReg_stored (p : Apu) {r : SoundReg} (h : r ≠ .nr52) : p.readReg r = p.regs.get r ||| r.mask := by
  cases r with
  | nr52 => exact absurd rfl h
  | _ => rfl

/-- NR52 as a number (R735). -/
theorem Apu.readNr52_toNat (p : Apu) :
    p.readNr52.toNat =
      128 * bit p.power + 112 + 8 * bit p.ch4.on + 4 * bit p.ch3.on + 2 * bit p.ch2.on + bit p.ch1.on := by
  have composed : ∀ power on4 on3 on2 on1 : Bool,
      (0x70#8 ||| (if power then 0x80#8 else 0x00#8) ||| (if on4 then 0x08#8 else 0x00#8)
        ||| (if on3 then 0x04#8 else 0x00#8) ||| (if on2 then 0x02#8 else 0x00#8)
        ||| (if on1 then 0x01#8 else 0x00#8)).toNat =
      128 * bit power + 112 + 8 * bit on4 + 4 * bit on3 + 2 * bit on2 + bit on1 := by
    decide
  exact composed p.power p.ch4.on p.ch3.on p.ch2.on p.ch1.on

/-- Clearing NR52 bit 7 while the power is on (R736). -/
theorem Apu.writeReg_powerOff {p : Apu} {v : Byte} (on : p.power = true) (off : v.getLsbD 7 = false) :
    p.writeReg .nr52 v = p.powerOff := by
  simp only [Apu.writeReg, on, off, if_true, Bool.false_eq_true, if_false]

theorem Apu.writeReg_powerOn {p : Apu} {v : Byte} (on : v.getLsbD 7 = true) :
    p.writeReg .nr52 v = { p with power := true } := by
  simp only [Apu.writeReg, on, if_true]

/-- A write to NR52 that leaves the power (R736). -/
theorem Apu.writeReg_samePower {p : Apu} {v : Byte} (same : p.power = v.getLsbD 7) : p.writeReg .nr52 v = p := by
  cases on : v.getLsbD 7 with
  | true => rw [Apu.writeReg_powerOn on, ← on, ← same]
  | false => simp only [Apu.writeReg, on, same, Bool.false_eq_true, if_false]

/-- Without power a write to any register but NR52 does nothing (R736). -/
theorem Apu.writeReg_unpowered {p : Apu} {r : SoundReg} {v : Byte} (off : p.power = false) (h : r ≠ .nr52) :
    p.writeReg r v = p := by
  cases r with
  | nr52 => exact absurd rfl h
  | _ => simp only [Apu.writeReg, off, Bool.false_eq_true, if_false]

/-- With the power on a write is stored and sets off what the register does (R736). -/
theorem Apu.writeReg_powered {p : Apu} {r : SoundReg} (v : Byte) (on : p.power = true) (h : r ≠ .nr52) :
    p.writeReg r v = { p with regs := p.regs.set v r }.afterStore r v := by
  cases r with
  | nr52 => exact absurd rfl h
  | _ => simp only [Apu.writeReg, on, if_true]

theorem Apu.sweepCheck_regs (p : Apu) : p.sweepCheck.regs = p.regs := by
  unfold Apu.sweepCheck
  split <;> rfl

theorem Apu.trigger1_regs (p : Apu) : p.trigger1.regs = p.regs := by
  unfold Apu.trigger1
  simp only
  split
  · exact Apu.sweepCheck_regs _
  · rfl

/-- What a store sets off changes no stored byte (R704, R711, R714). -/
theorem Apu.afterStore_regs (p : Apu) (r : SoundReg) (v : Byte) : (p.afterStore r v).regs = p.regs := by
  cases r with
  | nr14 =>
    show (if v.getLsbD 7 then p.trigger1 else p).regs = p.regs
    split
    · exact p.trigger1_regs
    · rfl
  | nr24 | nr34 | nr44 => simp only [Apu.afterStore]; split <;> rfl
  | _ => rfl

/-- The state that `soundStored` names, with the power on. -/
theorem soundStored_eq {p : Apu} {r : SoundReg} (v : Byte) (on : p.power = true) (h : r ≠ .nr52) :
    soundStored p r v = { p with regs := p.regs.set v r } := by
  rw [soundStored, Apu.writeReg_powered v on h, Apu.afterStore_regs]

/-- With the power on a write is a store and what that sets off. -/
theorem Apu.writeReg_stored {p : Apu} {r : SoundReg} (v : Byte) (on : p.power = true) (h : r ≠ .nr52) :
    p.writeReg r v = (soundStored p r v).afterStore r v := by
  rw [Apu.writeReg_powered v on h, soundStored_eq v on h]

/-- A stored byte is read back and no other register changes (R736). -/
theorem SoundRegs.get_set (g : SoundRegs) (v : Byte) {r : SoundReg} (h : r ≠ .nr52) (x : SoundReg) :
    (g.set v r).get x = if x = r then v else g.get x := by
  cases r <;> cases x <;> first | rfl | exact absurd rfl h

/-- Bit 7 of a byte as a comparison. -/
theorem getLsbD_seven (v : Byte) : v.getLsbD 7 = decide (128 ≤ v.toNat) := by
  have lt := v.isLt
  rw [BitVec.getLsbD, Nat.testBit_eq_decide_div_mod_eq]
  exact decide_eq_decide.mpr (by omega)

/-- The length field (R711). -/
theorem field_length (v : Byte) : field v 5 0 = v.toNat % 64 :=
  congrArg (· % 64) (Nat.div_one v.toNat)

/-- The sweep step of NR10 and the divisor code of NR43 (R708, R713). -/
theorem field_step (v : Byte) : field v 2 0 = v.toNat % 8 := congrArg (· % 8) (Nat.div_one v.toNat)

/-- The sweep pace of NR10 (R713). -/
theorem field_pace (v : Byte) : field v 6 4 = v.toNat / 16 % 8 := rfl

/-- The reload of the sweep timer (R713). -/
theorem sweepReload_eq (v : Byte) : sweepReload v = if v.toNat / 16 % 8 = 0 then 8 else v.toNat / 16 % 8 := rfl

/-- The initial volume of an envelope register (R712). -/
theorem volume_eq (v : Byte) : v.extractLsb' 4 4 = BitVec.ofNat 4 (v.toNat / 16) := extractLsb'_eq_ofNat v 4 4

/-- The pace of an envelope register (R712). -/
theorem envTimer_eq (v : Byte) : v.extractLsb' 0 3 = BitVec.ofNat 3 v.toNat := by
  rw [extractLsb'_eq_ofNat, Nat.pow_zero, Nat.div_one]

/-- An envelope channel's DAC is on when bits 7-3 are not all 0 (R704). -/
theorem dacOn_eq (v : Byte) : dacOn v = decide (8 ≤ v.toNat) := by
  have lt := v.isLt
  rw [dacOn, field, Bool.eq_iff_iff, bne_iff_ne, decide_eq_true_eq]
  omega

/-- An 11-bit period as a number (R700 to R702). -/
theorem periodOf_toNat (high low : Byte) : (periodOf high low).toNat = high.toNat % 8 * 256 + low.toNat := by
  rw [periodOf, BitVec.toNat_append, envTimer_eq, BitVec.toNat_ofNat, ← Nat.shiftLeft_add_eq_or_of_lt low.isLt,
    Nat.shiftLeft_eq]

/-- NR43's reload (R708). -/
theorem noiseReload_eq (v : Byte) :
    noiseReload v = (if v.toNat % 8 = 0 then 8 else 16 * (v.toNat % 8)) * 2 ^ (v.toNat / 16) := by
  have shift : field v 7 4 = v.toNat / 16 := by
    have lt := v.isLt
    rw [field]
    omega
  rw [noiseReload, noiseDivisor, shift, field_step]

/-- The sweep check computes the period of R713. -/
theorem sweepTarget_eq (nr10 : Byte) (p : BitVec 11) : sweepTarget nr10 p = sweptPeriod nr10 p.toNat := by
  rw [sweepTarget, sweptPeriod, field_step]

/-- The sweep check leaves channel 1 on when the period does not pass 2047 (R713). -/
theorem Apu.sweepCheck_eq (p : Apu) :
    p.sweepCheck =
      { p with
        ch1 := { p.ch1 with on := p.ch1.on && decide (sweptPeriod p.regs.nr10 p.sweep.shadow.toNat ≤ 2047) } } := by
  rw [Apu.sweepCheck, sweepTarget_eq]
  split
  · next above => simp [Nat.not_le.mpr above]
  · next fits => rw [decide_eq_true (Nat.not_lt.mp fits), Bool.and_true]

/-- The shared part of a trigger in numbers (R714). -/
theorem Square.trigger_eq (nrx2 : Byte) (p : BitVec 11) (c : Square) :
    c.trigger nrx2 p =
      { c with
        on := decide (8 ≤ nrx2.toNat)
        length := if c.length = 0 then 64 else c.length
        freqTimer := (2048 - p.toNat) * 4
        volume := BitVec.ofNat 4 (nrx2.toNat / 16)
        envTimer := BitVec.ofNat 3 nrx2.toNat } := by
  rw [Square.trigger, dacOn_eq, squareReload, volume_eq, envTimer_eq]

/-- Trigger of channel 1 in numbers, `n` being its period (R713, R714). -/
theorem Apu.trigger1_eq (p : Apu) {n : Nat} (h : n = p.regs.nr14.toNat % 8 * 256 + p.regs.nr13.toNat) :
    p.trigger1 =
      { p with
        ch1 :=
          { p.ch1 with
            on :=
              decide (8 ≤ p.regs.nr12.toNat) &&
                decide (p.regs.nr10.toNat % 8 = 0 ∨ sweptPeriod p.regs.nr10 n ≤ 2047)
            length := if p.ch1.length = 0 then 64 else p.ch1.length
            freqTimer := (2048 - n) * 4
            volume := BitVec.ofNat 4 (p.regs.nr12.toNat / 16)
            envTimer := BitVec.ofNat 3 p.regs.nr12.toNat }
        sweep :=
          { timer := if p.regs.nr10.toNat / 16 % 8 = 0 then 8 else p.regs.nr10.toNat / 16 % 8
            enabled := decide (p.regs.nr10.toNat / 16 % 8 ≠ 0 ∨ p.regs.nr10.toNat % 8 ≠ 0)
            shadow := BitVec.ofNat 11 n } } := by
  have period : p.regs.period1.toNat = n := (periodOf_toNat _ _).trans h.symm
  have shadow : p.regs.period1 = BitVec.ofNat 11 n := by rw [← period, BitVec.ofNat_toNat, BitVec.setWidth_eq]
  have enabled : (p.regs.nr10.toNat / 16 % 8 != 0 || p.regs.nr10.toNat % 8 != 0) =
      decide (p.regs.nr10.toNat / 16 % 8 ≠ 0 ∨ p.regs.nr10.toNat % 8 ≠ 0) := by
    rw [Bool.eq_iff_iff, Bool.or_eq_true, bne_iff_ne, bne_iff_ne, decide_eq_true_eq]
  unfold Apu.trigger1
  simp only [Square.trigger_eq, Apu.sweepCheck_eq, period, sweepReload_eq, field_pace, field_step, enabled]
  rw [shadow]
  split
  · next step => simp [step]
  · next noStep => simp [Decidable.not_not.mp noStep]

/-- A store that only triggers does nothing more while bit 7 is 0 (R714). -/
theorem Apu.writeReg_noTrigger {p : Apu} {r : SoundReg} {v : Byte} (on : p.power = true)
    (h : r ∈ [SoundReg.nr14, .nr24, .nr34, .nr44]) (low : v.toNat < 128) : p.writeReg r v = soundStored p r v := by
  have seven : v.getLsbD 7 = false := by rw [getLsbD_seven]; exact decide_eq_false (Nat.not_le.mpr low)
  have no52 : r ≠ .nr52 := by rintro rfl; simp at h
  rw [Apu.writeReg_stored v on no52]
  simp only [List.mem_cons, List.not_mem_nil, or_false] at h
  rcases h with rfl | rfl | rfl | rfl <;> exact if_neg (by rw [seven]; decide)

/-- Registers whose store sets nothing off. -/
theorem Apu.writeReg_plain {p : Apu} {r : SoundReg} (v : Byte) (on : p.power = true)
    (h : r ∈ [SoundReg.nr10, .nr13, .nr23, .nr32, .nr33, .nr43, .nr50, .nr51]) :
    p.writeReg r v = soundStored p r v := by
  have no52 : r ≠ .nr52 := by rintro rfl; simp at h
  rw [Apu.writeReg_stored v on no52]
  simp only [List.mem_cons, List.not_mem_nil, or_false] at h
  rcases h with rfl | rfl | rfl | rfl | rfl | rfl | rfl | rfl <;> rfl

/-- A store that triggers, bit 7 being 1 (R714). -/
theorem Apu.writeReg_triggers {p : Apu} {v : Byte} (on : p.power = true) (high : 128 ≤ v.toNat) :
    p.writeReg .nr14 v = (soundStored p .nr14 v).trigger1 ∧
      p.writeReg .nr24 v = (soundStored p .nr24 v).trigger2 ∧
      p.writeReg .nr34 v = (soundStored p .nr34 v).trigger3 ∧
      p.writeReg .nr44 v = (soundStored p .nr44 v).trigger4 := by
  have seven : v.getLsbD 7 = true := by rw [getLsbD_seven]; exact decide_eq_true high
  have write {r : SoundReg} (h : r ≠ .nr52) := Apu.writeReg_stored v on h
  exact ⟨(write (by decide)).trans (if_pos seven), (write (by decide)).trans (if_pos seven),
    (write (by decide)).trans (if_pos seven), (write (by decide)).trans (if_pos seven)⟩

/-- Settles O58: with the power on every write is `soundStored` and what the register sets off; a trigger's numbers are
those of `Square.trigger_eq` and `Apu.trigger1_eq`. -/
theorem soundControl : Obligations.SoundControl := by
  intro s p r v
  refine ⟨fun x mem => bus_sound s v mem, fun x mem => ?masks, p.readNr52_toNat, ?off, fun _ => Apu.writeReg_powerOn,
    Apu.writeReg_samePower, Apu.writeReg_unpowered, fun on => ?powered⟩
  case masks =>
    obtain ⟨no52, mask⟩ := soundMasks_mask x mem
    rw [p.readReg_stored no52, mask]
  case off =>
    rintro on off q rfl
    rw [Apu.writeReg_powerOff on off]
    exact ⟨rfl, fun x => by cases x <;> rfl, rfl, rfl, rfl, rfl, rfl, rfl, rfl, rfl, rfl, rfl, rfl⟩
  case powered =>
    have write {r : SoundReg} (h : r ≠ .nr52) := Apu.writeReg_stored v on h
    refine ⟨fun h x => ?get, Apu.writeReg_plain v on, Apu.writeReg_noTrigger on, ?length1, ?length2,
      ?length3, ?length4, ?dac1, ?dac2, ?dac3, ?dac4, fun high => ?triggers⟩
    case get => rw [Apu.writeReg_powered v on h, Apu.afterStore_regs]; exact p.regs.get_set v h x
    case length1 => rw [write (by decide), ← field_length]; rfl
    case length2 => rw [write (by decide), ← field_length]; rfl
    case length3 => rw [write (by decide)]; rfl
    case length4 => rw [write (by decide), ← field_length]; rfl
    case dac1 => rw [write (by decide), ← dacOn_eq]; rfl
    case dac2 => rw [write (by decide), ← dacOn_eq]; rfl
    case dac3 => rw [write (by decide)]; rfl
    case dac4 => rw [write (by decide), ← dacOn_eq]; rfl
    case triggers =>
      obtain ⟨t1, t2, t3, t4⟩ := Apu.writeReg_triggers on high
      refine ⟨fun n hn => ?_, ?_, ?_, ?_⟩
      · rw [t1, soundStored_eq v on (by decide)]
        exact Apu.trigger1_eq _ hn
      · rw [t2, soundStored_eq v on (by decide), Apu.trigger2, Square.trigger_eq, SoundRegs.period2, periodOf_toNat]
        rfl
      · rw [t3, soundStored_eq v on (by decide), Apu.trigger3, waveReload, SoundRegs.period3, periodOf_toNat]
        rfl
      · rw [t4, soundStored_eq v on (by decide), Apu.trigger4, noiseReload_eq, dacOn_eq, volume_eq, envTimer_eq]
        rfl

end Sys2Proof.Machine
end

section
/-! PROOF. The state at reset (R70 to R90, R126, R130, R135 to R137, R241, R900 to R906). -/

namespace Sys2Proof.Machine

open Sys2Proof.Config

/-- The registers and the control state at reset (R135). -/
theorem cpuInv_reset : CpuInv State.reset where
  delay := by decide
  delayOff := fun ne => absurd rfl ne
  stall := by decide
  bug := fun e => (Bool.false_ne_true e).elim
  oneState := fun e => (Bool.false_ne_true e).elim

theorem memoryInv_reset : MemoryInv State.reset where
  vram := rfl
  wram := rfl
  oam := rfl
  hram := rfl
  wave := rfl
  rom := rfl
  eram := rfl

/-- A blank frame has the size of the screen (R137). -/
theorem Frame.blank_columns : ∀ r ∈ Frame.blank, r.length = screenWidth := by
  intro r mem
  rw [List.eq_of_mem_replicate mem, List.length_replicate]
  rfl

theorem ppuInv_reset : PpuInv Ppu.reset where
  ly := by decide
  dot := by decide
  endLow := by decide
  endHigh := by decide
  modeOn := fun _ => rfl
  off := fun e => absurd e (by decide)
  flag := rfl
  rows := List.length_replicate
  columns := Frame.blank_columns

/-- Every channel is off at reset, and every timer at a reload above 0 (R137). -/
theorem apuInv_reset : ApuInv Apu.reset where
  counter := by decide
  seqStep := by decide
  sample := by decide
  length1 := by decide
  length2 := by decide
  length3 := by decide
  length4 := by decide
  timer1 := by decide
  timer2 := by decide
  timer3 := by decide
  timer4 := by decide
  sweepTimer := by decide
  on1 := fun e => (Bool.false_ne_true e).elim
  on2 := fun e => (Bool.false_ne_true e).elim
  on3 := fun e => (Bool.false_ne_true e).elim
  on4 := fun e => (Bool.false_ne_true e).elim
  powerOff := fun e => (Bool.false_ne_true e.symm).elim

theorem serialInv_reset : SerialInv Serial.reset where
  bits := by decide
  timer := by decide
  busy := fun ne => absurd rfl ne

theorem cartInv_blank : CartInv Cart.blank where
  banks := by decide
  ramBanks := fun ne => absurd rfl ne
  clock := fun r k e => by cases e

/-- Settles O44, invariant by invariant. -/
theorem invariantAtReset : Obligations.InvariantAtReset where
  memory := memoryInv_reset
  cpu := cpuInv_reset
  ppu := ppuInv_reset
  apu := apuInv_reset
  serial := serialInv_reset
  cart := cartInv_blank

/-- Offsets of the I/O registers whose reset values the spec lists (R70 to R88, R136): P1, the serial port, the timer,
IF, NR52 and the pixel pipeline. -/
def listedAtReset : List Nat :=
  [0x00, 0x01, 0x02, 0x05, 0x06, 0x07, 0x0F, 0x26, 0x40, 0x41, 0x42, 0x43, 0x44, 0x45, 0x46, 0x47, 0x4A, 0x4B]

/-- The I/O registers whose reset values the spec lists, and IE (R70 to R90, R136), whatever the cartridge, the
parameters and the draws. -/
theorem resetWith_reads (u : Setup) (c : Cart) :
    [0xFF00#16, 0xFF01#16, 0xFF02#16, 0xFF05#16, 0xFF06#16, 0xFF07#16, 0xFF0F#16, 0xFF26#16, 0xFF40#16, 0xFF41#16,
        0xFF42#16, 0xFF43#16, 0xFF44#16, 0xFF45#16, 0xFF46#16, 0xFF47#16, 0xFF4A#16, 0xFF4B#16, 0xFFFF#16].map
        (memRead (resetWith u c)) =
      [0xCF#8, 0x00#8, 0x7E#8, 0x00#8, 0x00#8, 0xF8#8, 0xE1#8, 0xF0#8, 0x91#8, 0x86#8, 0x00#8, 0x00#8, 0x00#8, 0x00#8,
        0xFF#8, 0xFC#8, 0x00#8, 0x00#8, 0x00#8] := by
  have listed : ∀ i ∈ listedAtReset, i < 0x80 := by decide
  have ie : memRead (resetWith u c) 0xFFFF#16 = 0x00#8 := by
    rw [memRead, show region 0xFFFF#16 = .ie by decide]
    rfl
  have io : (listedAtReset.map ioAddress).map (memRead (resetWith u c)) =
      [0xCF#8, 0x00#8, 0x7E#8, 0x00#8, 0x00#8, 0xF8#8, 0xE1#8, 0xF0#8, 0x91#8, 0x86#8, 0x00#8, 0x00#8, 0x00#8, 0x00#8,
        0xFF#8, 0xFC#8, 0x00#8, 0x00#8] :=
    calc
      _ = (listedAtReset.map ioReg).map (ioRead (resetWith u c)) := map_memRead_ioAddress _ listed
      _ = (listedAtReset.map ioReg).map (ioRead State.reset) := rfl
      _ = _ := by decide
  exact (List.map_append (l₂ := [0xFFFF#16])).trans (congrArg₂ (· ++ ·) io (congrArg (fun b => [b]) ie))

/-- The state of a startup has the reset values of the spec around any cartridge (R900 to R906). -/
theorem resetValues_resetWith (u : Setup) (c : Cart) : ResetValues (resetWith u c) :=
  have flags : Cpu.reset.f.toByte = 0xB0#8 := by decide
  have bc : State.reset.bc = 0x0013#16 := by decide
  have de : State.reset.de = 0x00D8#16 := by decide
  have hl : State.reset.hl = 0x014D#16 := by decide
  ⟨rfl, flags, bc, de, hl, rfl, rfl, rfl, rfl, rfl, rfl, rfl, rfl, rfl, resetWith_reads u c, rfl, rfl, rfl, rfl, rfl,
    rfl, rfl, rfl, rfl, rfl, rfl, rfl, rfl, rfl, rfl, rfl, rfl, rfl, rfl, rfl, rfl, rfl, rfl, rfl, rfl, rfl, rfl, rfl,
    rfl, rfl, rfl, rfl, rfl, rfl, rfl⟩

/-- `State.reset` is what the default startup gives around the blank cartridge (log 10). -/
theorem resetWith_default : resetWith Setup.default Cart.blank = State.reset := rfl

/-- The state of an accepted startup is the reset state around the cartridge of its header (R226, R900). -/
theorem powerOn_cases {u : Setup} {image : List Byte} {dump : Option (List Byte)} {t : CartType} {s : State}
    {warned : Bool} (type : cartType (imageByte image 0x147) = some t)
    (h : powerOn u (some image) dump = .ok (s, warned)) :
    ∃ nrom declared, s = resetWith u (buildCart u t nrom declared image dump) := by
  unfold powerOn at h
  split at h
  · cases h
  · next c w load =>
    cases h
    unfold loadCart at load
    simp only [type] at load
    split at load
    · cases load
    · split at load
      · next nrom declared _ _ =>
        split_ifs at load <;> cases load <;> exact ⟨nrom, declared, rfl⟩
      · cases load

/-- The controller at construction (R241). -/
theorem startController_reset (t : CartType) (rtc : ClockRegs) :
    controllerAtReset t rtc (startController t rtc) := by
  unfold controllerAtReset startController
  cases t.variant with
  | c =>
    refine ⟨_, rfl, fun no => if_neg (by rw [no]; decide), ?_⟩
    rintro yes g rfl
    exact if_pos yes
  | none | a | b | d => rfl

/-- Settles O43: a startup's state is `resetWith` around some cartridge, and so is `State.reset`. -/
theorem resetState : Obligations.ResetState := by
  refine ⟨resetWith_default ▸ resetValues_resetWith Setup.default Cart.blank,
    (memRead_ioAddress 0x04 State.reset).trans (by decide), ?_⟩
  intro u image dump t s warned type h
  obtain ⟨nrom, declared, rfl⟩ := powerOn_cases type h
  exact ⟨resetValues_resetWith u _, rfl, rfl, startController_reset t u.rtcInit⟩

end Sys2Proof.Machine
end

section
/-! PROOF. OAM DMA (R166, R190). -/

namespace Sys2Proof.Machine

open Sys2Proof.Config

/-- An address in OAM and its offset (R150). -/
theorem region_eq_oam {a : Word} {i : Nat} (h : region a = .oam i) : a.toNat = 0xFE00 + i ∧ i < 160 := by
  simp only [region] at h
  split_ifs at h
  injection h
  omega

/-- Of OAM the unblocked view shows at most the cell of its address (R166). -/
theorem rawRead_withOam {s : State} {m : Mem} {a : Word}
    (h : ∀ i, region a = .oam i → m.read i = s.oam.read i) : rawRead { s with oam := m } a = rawRead s a := by
  unfold rawRead
  cases r : region a with
  | oam i => exact h i r
  | _ => rfl

/-- The copy fills only the cells from `i` to `i + n - 1`. -/
theorem dmaCopy_read_other {n i k : Nat} (base : Word) (s : State) (h : k < i ∨ i + n ≤ k) :
    (dmaCopy n i base s).oam.read k = s.oam.read k := by
  induction n generalizing i s with
  | zero => rfl
  | succ n ih => exact (ih _ (by omega)).trans (Mem.read_write_other _ (by omega))

/-- The source addresses of OAM DMA (R190). -/
theorem dmaSource_eq (v : Byte) (k : Nat) :
    (v ++ 0x00#8 : Word) + BitVec.ofNat 16 k = BitVec.ofNat 16 (256 * v.toNat + k) := by
  have base : (v ++ 0x00#8 : Word) = BitVec.ofNat 16 (256 * v.toNat) := by
    apply BitVec.eq_of_toNat_eq
    have lt := v.isLt
    simp only [BitVec.toNat_append, BitVec.toNat_ofNat, Nat.shiftLeft_eq, Nat.zero_mod, Nat.or_zero]
    omega
  rw [base, BitVec.ofNat_add]

/-- A source in OAM is the cell it is copied to, so no cell is read after it was overwritten (R190). -/
theorem dmaSource_oam {v : Byte} {k i : Nat} (lt : k < 160)
    (h : region ((v ++ 0x00#8 : Word) + BitVec.ofNat 16 k) = .oam i) : i = k := by
  obtain ⟨position, bound⟩ := region_eq_oam h
  rw [dmaSource_eq, BitVec.toNat_ofNat] at position
  have byte := v.isLt
  omega

/-- Each cell of the copy holds what the view showed at its source before the copy began (R190). -/
theorem dmaCopy_read {n i k : Nat} {v : Byte} {s : State} (canonical : s.oam.wf = true) (l : i ≤ k) (h : k < i + n)
    (fits : i + n ≤ 160) :
    (dmaCopy n i (v ++ 0x00#8) s).oam.read k = rawRead s ((v ++ 0x00#8 : Word) + BitVec.ofNat 16 k) := by
  induction n generalizing i s with
  | zero => omega
  | succ n ih =>
    rcases Nat.eq_or_lt_of_le l with rfl | later
    · rw [dmaCopy, dmaCopy_read_other _ _ (.inl (Nat.lt_succ_self i)), Mem.read_write_same i _ canonical]
    · refine (ih (Mem.wf_write i _ canonical) later (by omega) (by omega)).trans (rawRead_withOam fun j r => ?_)
      have same := dmaSource_oam (by omega) r
      exact Mem.read_write_other _ (by omega)

/-- Everything OAM DMA does, with the OAM it leaves (R190). -/
theorem dmaStart_eq_copy (s : State) (v : Byte) :
    dmaStart s v =
      { s with
        ppu := { s.ppu with dma := v }
        oam := (dmaCopy dmaLength 0 (v ++ 0x00#8) { s with ppu := { s.ppu with dma := v } }).oam
        cpu := { s.cpu with dmaStall := dmaLength } } := by
  unfold dmaStart
  generalize dmaLength = n
  exact congrArg (fun t : State => { t with cpu := { t.cpu with dmaStall := n } }) (dmaCopy_oam n 0 _ _)

/-- Settles O54: OAM after the write is `dmaCopy`'s, and the copy never reads a cell it has overwritten
(`dmaSource_oam`). -/
theorem oamDma : Obligations.OamDma := by
  intro s v
  refine ⟨_, (memWrite_ioAddress 0x46 s v).trans (dmaStart_eq_copy s v), fun inv i lt => ?_, fun i le => ?_⟩
  · have canonical := inv.oam
    rw [Mem.fits, Bool.and_eq_true] at canonical
    rw [← dmaSource_eq]
    exact dmaCopy_read canonical.1 (Nat.zero_le i) (by rwa [Nat.zero_add]) (by decide)
  · exact dmaCopy_read_other _ _ (.inr (by rwa [Nat.zero_add]))

end Sys2Proof.Machine
end

section
/-! PROOF. Idle steps and waking up (R191, R582, R584, R800, R801). -/

namespace Sys2Proof.Machine

/-- Request `k` is pending when IE enables it and IF holds it (R811). -/
theorem State.pending_getLsbD (s : State) {k : Nat} (h : k < 5) :
    s.pending.getLsbD k = (s.ie.getLsbD k && s.intf.getLsbD k) := by
  simp [State.pending, h]

/-- Nothing is pending when each request is disabled or not made (R811). -/
theorem State.pending_eq_zero_iff (s : State) :
    s.pending = 0#5 ↔ ∀ k < 5, s.ie.getLsbD k = false ∨ s.intf.getLsbD k = false := by
  rw [BitVec.eq_of_getLsbD_eq_iff]
  refine forall₂_congr fun k lt => ?_
  rw [State.pending_getLsbD s lt, BitVec.getLsbD_zero, Bool.and_eq_false_iff]

/-- Something is pending when an enabled request is made (R811). -/
theorem State.pending_ne_zero_iff (s : State) :
    s.pending ≠ 0#5 ↔ ∃ k < 5, s.ie.getLsbD k = true ∧ s.intf.getLsbD k = true := by
  rw [ne_eq, s.pending_eq_zero_iff]
  push Not
  simp only [ne_eq, Bool.not_eq_false]

/-- The iteration of a run that is going on is the processor step and then the devices (R860). -/
theorem step_of_cpuStep {s t : State} (run : s.running) (h : cpuStep s = .next t) :
    step s = .next (finishIteration t) := by
  obtain ⟨fatal, ended⟩ := run
  simp only [step, iteration, fatal, ended, h]

/-- Two states whose processor steps agree have the same iteration. -/
theorem step_congr {s t : State} (fatal : s.cpu.fatal = t.cpu.fatal) (ended : s.ended = t.ended)
    (h : cpuStep s = cpuStep t) : step s = step t := by
  simp only [step, iteration, fatal, ended, h]

/-- The processor step during the stall of OAM DMA (R191). -/
theorem cpuStep_stalled {s : State} (stall : 0 < s.cpu.dmaStall) :
    cpuStep s = .next { s with cpu := { s.cpu with dmaStall := s.cpu.dmaStall - 1, cycles := 1 } } :=
  if_pos stall

/-- A halted or stopped processor idles while nothing is pending (R582, R584). -/
theorem cpuStep_idle {s : State} (stall : s.cpu.dmaStall = 0) (waits : s.cpu.halted = true ∨ s.cpu.stopped = true)
    (quiet : s.pending = 0#5) : cpuStep s = .next { s with cpu := { s.cpu with cycles := 1 } } := by
  have idles : ((s.cpu.stopped || s.cpu.halted) && s.pending == 0#5) = true := by
    simp [quiet, waits.symm]
  rw [cpuStep, if_neg (by omega), if_pos idles]
  rfl

/-- With a request pending the processor wakes up, and dispatches if IME is set (R582, R584, R800). -/
theorem cpuStep_requested {s : State} (stall : s.cpu.dmaStall = 0) (requested : s.pending ≠ 0#5) :
    cpuStep s =
      if s.cpu.ime then .next (takeInterrupt (lowestPending s.pending) s.wake) else executeOne s.wake := by
  have acts : ¬((s.cpu.stopped || s.cpu.halted) && s.pending == 0#5) = true := by simp [requested]
  rw [cpuStep, if_neg (by omega), if_neg acts, bne_iff_ne.mpr requested, Bool.and_true]

/-- So it is then the step of the state that is awake already. -/
theorem cpuStep_wake {s : State} (stall : s.cpu.dmaStall = 0) (requested : s.pending ≠ 0#5) :
    cpuStep s = cpuStep s.wake :=
  (cpuStep_requested stall requested).trans (cpuStep_requested (s := s.wake) stall requested).symm

/-- Settles O40, by the branches of `cpuStep` that fetch nothing and the one that wakes up. -/
theorem idleSteps : Obligations.IdleSteps := by
  intro s run
  refine ⟨fun stall => step_of_cpuStep run (cpuStep_stalled stall), fun stall waits quiet => ?_,
    fun stall _ requested => ?_⟩
  · exact step_of_cpuStep run (cpuStep_idle stall waits (s.pending_eq_zero_iff.mpr quiet))
  · rintro w rfl
    exact ⟨step_congr rfl rfl (cpuStep_wake stall (s.pending_ne_zero_iff.mpr requested)),
      fun ime => ⟨run, stall, rfl, rfl, .inl ime⟩⟩

end Sys2Proof.Machine
end

section
/-! PROOF. The serial port's transfer (R163, R845, R846). -/

namespace Sys2Proof.Machine

/-- A byte after `k` ones have been shifted in from below (R846). -/
def onesShiftedIn (b : Byte) (k : Nat) : Byte := BitVec.ofNat 8 (b.toNat * 2 ^ k + (2 ^ k - 1))

theorem onesShiftedIn_zero (b : Byte) : onesShiftedIn b 0 = b := by simp [onesShiftedIn]

/-- The port's own shift takes in one more. -/
theorem onesShiftedIn_succ (b : Byte) (k : Nat) : (onesShiftedIn b k <<< 1) ||| 0x01#8 = onesShiftedIn b (k + 1) := by
  have shift : ∀ x : Byte, (x <<< 1) ||| 0x01#8 = BitVec.ofNat 8 (2 * x.toNat + 1) := by decide
  have pos := Nat.two_pow_pos k
  rw [shift, onesShiftedIn, onesShiftedIn]
  apply BitVec.eq_of_toNat_eq
  simp only [BitVec.toNat_ofNat]
  rw [Nat.pow_succ 2 k, ← Nat.mul_assoc]
  omega

/-- After eight none of the byte is left. -/
theorem onesShiftedIn_eight (b : Byte) : onesShiftedIn b 8 = 0xFF#8 := by
  apply BitVec.eq_of_toNat_eq
  rw [onesShiftedIn, BitVec.toNat_ofNat]
  exact Nat.mul_add_mod_of_lt (by decide)

/-- A T-cycle in the middle of a bit counts the timer down (R846). -/
theorem Serial.tick_counts {p : Serial} (busy : p.bitsLeft ≠ 0) (h : p.timer - 1 ≠ 0) :
    p.tick = ({ p with timer := p.timer - 1 }, false) := by
  rw [Serial.tick, if_neg busy, if_pos h]

/-- The last T-cycle of a bit that is not the last one shifts a 1 in (R846). -/
theorem Serial.tick_shifts {p : Serial} (busy : p.bitsLeft - 1 ≠ 0) (h : p.timer - 1 = 0) :
    p.tick = ({ p with sb := (p.sb <<< 1) ||| 0x01#8, bitsLeft := p.bitsLeft - 1, timer := 512 }, false) := by
  rw [Serial.tick, if_neg (by omega), if_neg (not_not.mpr h)]
  exact if_neg busy

/-- The last T-cycle of the last bit ends the transfer and requests the interrupt (R846). -/
theorem Serial.tick_ends {p : Serial} (last : p.bitsLeft = 1) (h : p.timer - 1 = 0) :
    p.tick = ({ p with sb := (p.sb <<< 1) ||| 0x01#8, bitsLeft := 0, timer := 0, start := false }, true) := by
  rw [Serial.tick, if_neg (by omega), if_neg (not_not.mpr h)]
  simp only [last]
  rfl

/-- The port `n` T-cycles into a transfer that has not ended (R846). -/
def Serial.inTransfer (p : Serial) (n : Nat) : Serial :=
  { p with sb := onesShiftedIn p.sb (n / 512), bitsLeft := 8 - n / 512, timer := 512 - n % 512 }

theorem Serial.inTransfer_zero {p : Serial} (bits : p.bitsLeft = 8) (timer : p.timer = 512) :
    p.inTransfer 0 = p := by
  cases p
  subst bits timer
  rw [inTransfer, Nat.zero_div, onesShiftedIn_zero]

/-- One T-cycle further into the transfer: within a bit, or on to the next one. -/
theorem Serial.tick_inTransfer (p : Serial) {n : Nat} (h : n + 1 < 4096) :
    (p.inTransfer n).tick = (p.inTransfer (n + 1), false) := by
  by_cases last : n % 512 = 511
  · have bit : (n + 1) / 512 = n / 512 + 1 := by omega
    have first : (n + 1) % 512 = 0 := by omega
    rw [Serial.tick_shifts (by simp only [inTransfer]; omega) (by simp only [inTransfer]; omega)]
    simp only [inTransfer, onesShiftedIn_succ, bit, first, Nat.sub_sub, Nat.sub_zero]
  · have bit : (n + 1) / 512 = n / 512 := by omega
    have next : (n + 1) % 512 = n % 512 + 1 := by omega
    rw [Serial.tick_counts (by simp only [inTransfer]; omega) (by simp only [inTransfer]; omega)]
    simp only [inTransfer, bit, next, Nat.sub_sub]

/-- The 4096th T-cycle of a transfer is its end. -/
theorem Serial.tick_inTransfer_last (p : Serial) :
    (p.inTransfer 4095).tick = ({ p with sb := 0xFF#8, start := false, bitsLeft := 0, timer := 0 }, true) := by
  rw [Serial.tick_ends rfl rfl]
  have shifted : (onesShiftedIn p.sb 7 <<< 1) ||| 0x01#8 = 0xFF#8 :=
    (onesShiftedIn_succ p.sb 7).trans (onesShiftedIn_eight p.sb)
  exact congrArg (fun b => ({ p with sb := b, start := false, bitsLeft := 0, timer := 0 }, true)) shifted

/-- No T-cycle before the last requests the interrupt. -/
theorem serialTicks_inTransfer (p : Serial) {m n : Nat} (h : m + n < 4096) :
    serialTicks n (p.inTransfer m) = (p.inTransfer (m + n), false) := by
  induction n generalizing m with
  | zero => rfl
  | succ n ih =>
    rw [serialTicks, p.tick_inTransfer (by omega), ih (by omega), Nat.add_right_comm]
    rfl

/-- T-cycles one after another. -/
theorem serialTicks_add (m n : Nat) (p : Serial) :
    serialTicks (m + n) p =
      ((serialTicks n (serialTicks m p).1).1, (serialTicks m p).2 || (serialTicks n (serialTicks m p).1).2) := by
  induction m generalizing p with
  | zero => rw [Nat.zero_add]; rfl
  | succ m ih => rw [Nat.succ_add, serialTicks, serialTicks, ih, Bool.or_assoc]

/-- A whole transfer is 4096 T-cycles, the last of which requests the interrupt (R846). -/
theorem serialTicks_transfer (p : Serial) :
    serialTicks 4096 (p.inTransfer 0) =
      ({ p with sb := 0xFF#8, start := false, bitsLeft := 0, timer := 0 }, true) := by
  rw [show 4096 = 4095 + 1 from rfl, serialTicks_add, serialTicks_inTransfer p (by decide), serialTicks,
    p.tick_inTransfer_last]
  rfl

/-- Settles O59: the branches of an SC write and of a T-cycle, and `n` T-cycles of a transfer in closed form
(`Serial.inTransfer`). -/
theorem serialTransfer : Obligations.SerialTransfer := by
  intro s p v n
  refine ⟨memWrite_ioAddress 0x02 s v, fun seven zero => ?internal, fun seven => ?stop, fun seven zero => ?external,
    fun idle => if_pos idle, fun bits timer => ⟨fun lt => ?progress, fun all => ?finish⟩⟩
  case internal => simp only [Serial.writeSc, seven, zero]; rfl
  case stop => simp only [Serial.writeSc, seven]; rfl
  case external => simp only [Serial.writeSc, seven, zero]; rfl
  case progress =>
    have during := serialTicks_inTransfer p (m := 0) (n := n) (by omega)
    rw [Serial.inTransfer_zero bits timer, Nat.zero_add] at during
    rw [during]
    exact ⟨rfl, rfl, rfl, BitVec.toNat_ofNat _ _⟩
  case finish =>
    have whole := serialTicks_transfer p
    rw [Serial.inTransfer_zero bits timer] at whole
    rw [all]
    exact whole

end Sys2Proof.Machine
end

section
/-! PROOF. The cartridge's real-time clock (R260, R264). -/

namespace Sys2Proof.Machine

open Sys2Proof.Config

/-- The 9-bit day counter `DH[0] : DL` (R260). -/
def ClockRegs.day (k : ClockRegs) : Nat := 256 * bit (k.dh.getLsbD 0) + k.dl.toNat

/-- The seconds since day 0, by the day counter. -/
theorem clockSeconds_eq (k : ClockRegs) :
    clockSeconds k = ((k.day * 24 + k.hr.toNat) * 60 + k.m.toNat) * 60 + k.s.toNat := rfl

theorem ClockRegs.day_lt (k : ClockRegs) : k.day < 512 := by
  have lt := k.dl.isLt
  unfold ClockRegs.day bit
  split <;> omega

/-- The day counter moves by one; past 511 it is 0 and the carry bit set (R264). -/
theorem ClockRegs.nextDay_day (k : ClockRegs) :
    k.nextDay.day = (k.day + 1) % 512 ∧
      k.nextDay.dh.getLsbD 7 = (k.dh.getLsbD 7 || decide (k.day = 511)) := by
  have lt := k.dl.isLt
  unfold ClockRegs.nextDay ClockRegs.day
  split_ifs with low high
  · have next : (k.dl + 1#8).toNat = k.dl.toNat + 1 := by bv_omega
    have ends : k.dl.toNat ≠ 255 := by bv_omega
    constructor
    · simp only [next, bit]
      split <;> omega
    · rw [decide_eq_false (by unfold bit; split <;> omega), Bool.or_false]
  · rw [high, not_not.mp low]
    simp [bit]
  · rw [Bool.eq_false_of_not_eq_true high, not_not.mp low]
    simp [bit]

/-- A new day keeps the time of day and the halt bit. -/
theorem ClockRegs.nextDay_keeps (k : ClockRegs) :
    k.nextDay.hr = k.hr ∧ k.nextDay.m = k.m ∧ k.nextDay.s = k.s ∧ k.nextDay.dh.getLsbD 6 = k.dh.getLsbD 6 := by
  unfold ClockRegs.nextDay
  split_ifs <;> simp

/-- A second keeps the halt bit. -/
theorem ClockRegs.tickSecond_halt (k : ClockRegs) : k.tickSecond.dh.getLsbD 6 = k.dh.getLsbD 6 := by
  unfold ClockRegs.tickSecond
  simp only
  split_ifs
  iterate 3 rfl
  exact (ClockRegs.nextDay_keeps _).2.2.2

/-- `t` shows what `g` shows a second later, modulo the 512 days, which set the carry bit when they pass (R264). -/
def ClockRegs.elapsesTo (g t : ClockRegs) : Prop :=
  clockSeconds t = (clockSeconds g + 1) % (512 * 86400) ∧
    t.dh.getLsbD 7 = (g.dh.getLsbD 7 || decide (clockSeconds g + 1 = 512 * 86400))

/-- A second within the 512 days sets no carry bit. -/
theorem ClockRegs.elapsesTo_within {g t : ClockRegs} (lt : clockSeconds g + 1 < 512 * 86400) (dh : t.dh = g.dh)
    (next : clockSeconds t = clockSeconds g + 1) : g.elapsesTo t := by
  rw [ClockRegs.elapsesTo, next, dh, decide_eq_false lt.ne, Bool.or_false]
  exact ⟨(Nat.mod_eq_of_lt lt).symm, rfl⟩

/-- The last second of a day leads to the first of the next. -/
theorem ClockRegs.elapsesTo_nextDay {g : ClockRegs} (last : clockSeconds g + 1 = (g.day + 1) * 86400) :
    g.elapsesTo { g with s := 0#6, m := 0#6, hr := 0#5 }.nextDay := by
  obtain ⟨hr, m, s, -⟩ := ClockRegs.nextDay_keeps { g with s := 0#6, m := 0#6, hr := 0#5 }
  obtain ⟨day, carry⟩ := ClockRegs.nextDay_day { g with s := 0#6, m := 0#6, hr := 0#5 }
  change _ = (g.day + 1) % 512 at day
  change _ = (g.dh.getLsbD 7 || decide (g.day = 511)) at carry
  constructor
  · rw [clockSeconds_eq, day, hr, m, s, last, Nat.mul_mod_mul_right]
    simp only [BitVec.toNat_ofNat]
    omega
  · rw [carry, last]
    congr 2
    exact propext (by omega)

/-- A second of registers in range, by the registers it carries into (R264). -/
theorem ClockRegs.tickSecond_elapses {g : ClockRegs} (s : g.s.toNat < 60) (m : g.m.toNat < 60)
    (hr : g.hr.toNat < 24) : g.elapsesTo g.tickSecond := by
  have day := g.day_lt
  have total := clockSeconds_eq g
  unfold ClockRegs.tickSecond
  simp only
  split_ifs with second minute hour
  · have next : (g.s + 1#6).toNat = g.s.toNat + 1 := by bv_omega
    have small : g.s.toNat ≠ 59 := by bv_omega
    refine ClockRegs.elapsesTo_within (by omega) rfl ?_
    change ((g.day * 24 + g.hr.toNat) * 60 + g.m.toNat) * 60 + (g.s + 1#6).toNat = _
    omega
  · have next : (g.m + 1#6).toNat = g.m.toNat + 1 := by bv_omega
    have small : g.m.toNat ≠ 59 := by bv_omega
    have last : g.s.toNat = 59 := by bv_omega
    refine ClockRegs.elapsesTo_within (by omega) rfl ?_
    change ((g.day * 24 + g.hr.toNat) * 60 + (g.m + 1#6).toNat) * 60 + 0 = _
    omega
  · have next : (g.hr + 1#5).toNat = g.hr.toNat + 1 := by bv_omega
    have small : g.hr.toNat ≠ 23 := by bv_omega
    have last : g.s.toNat = 59 ∧ g.m.toNat = 59 := by constructor <;> bv_omega
    refine ClockRegs.elapsesTo_within (by omega) rfl ?_
    change ((g.day * 24 + (g.hr + 1#5).toNat) * 60 + 0) * 60 + 0 = _
    omega
  · have last : g.s.toNat = 59 ∧ g.m.toNat = 59 ∧ g.hr.toNat = 23 := by refine ⟨?_, ?_, ?_⟩ <;> bv_omega
    exact ClockRegs.elapsesTo_nextDay (by omega)

/-- The clock after `n` T-cycles of a running second (R264): the seconds that passed, and the place in the last one. -/
def Clock.elapsed (k : Clock) (n : Nat) : Clock :=
  { k with live := Nat.repeat ClockRegs.tickSecond ((k.sub + n) / clockHz) k.live, sub := (k.sub + n) % clockHz }

theorem Clock.elapsed_zero {k : Clock} (h : k.sub < clockHz) : k.elapsed 0 = k := by
  rw [Clock.elapsed, Nat.add_zero, Nat.div_eq_of_lt h, Nat.mod_eq_of_lt h]
  rfl

/-- Seconds keep the halt bit. -/
theorem Clock.elapsed_halt (k : Clock) (n : Nat) : (k.elapsed n).live.dh.getLsbD 6 = k.live.dh.getLsbD 6 := by
  unfold Clock.elapsed
  generalize (k.sub + n) / clockHz = seconds
  induction seconds with
  | zero => rfl
  | succ seconds ih => exact (ClockRegs.tickSecond_halt _).trans ih

theorem Clock.tick_halted {k : Clock} (h : k.live.dh.getLsbD 6 = true) : k.tick = k := if_pos h

/-- A T-cycle of a running clock, at the end of a second or inside it. -/
theorem Clock.tick_elapsed {k : Clock} (running : k.live.dh.getLsbD 6 = false) (n : Nat) :
    (k.elapsed n).tick = k.elapsed (n + 1) := by
  rw [Clock.tick, Clock.elapsed_halt, running, if_neg Bool.false_ne_true]
  unfold Clock.elapsed
  rw [← Nat.add_assoc]
  simp only
  split_ifs with second
  · have whole : (k.sub + n + 1) / clockHz = (k.sub + n) / clockHz + 1 := by unfold clockHz at *; omega
    have start : (k.sub + n + 1) % clockHz = 0 := by unfold clockHz at *; omega
    rw [whole, start]
    rfl
  · have same : (k.sub + n + 1) / clockHz = (k.sub + n) / clockHz := by unfold clockHz at *; omega
    have next : (k.sub + n + 1) % clockHz = (k.sub + n) % clockHz + 1 := by unfold clockHz at *; omega
    rw [same, next]

/-- T-cycles one after another add up. -/
theorem clockTicks_elapsed {k : Clock} (running : k.live.dh.getLsbD 6 = false) (n m : Nat) :
    clockTicks n (k.elapsed m) = k.elapsed (m + n) := by
  induction n generalizing m with
  | zero => rfl
  | succ n ih => rw [clockTicks, Clock.tick_elapsed running, ih, Nat.succ_add_eq_add_succ]

/-- Settles O57: `n` T-cycles of a running clock in closed form (`Clock.elapsed`), and one second by the registers it
carries into (`ClockRegs.tickSecond_elapses`). -/
theorem clockAdvance : Obligations.ClockAdvance := by
  intro k g n
  refine ⟨fun running sub => ?ticks, fun s m hr => ?second, Clock.tick_halted⟩
  case ticks =>
    have all := clockTicks_elapsed running n 0
    rw [Clock.elapsed_zero sub, Nat.zero_add] at all
    rw [all]
    exact ⟨rfl, rfl, rfl⟩
  case second =>
    obtain ⟨seconds, carry⟩ := ClockRegs.tickSecond_elapses s m hr
    exact ⟨seconds, carry, g.tickSecond_halt⟩

end Sys2Proof.Machine
end

section
/-! PROOF. The cartridge's four controllers: the image, the commands and external RAM (R230 to R273). -/

namespace Sys2Proof.Machine

open Sys2Proof.Config

/-- A read below 0x8000 shows a byte of the image, a write there is a command (R153, R230). -/
theorem bus_rom (s : State) {a : Word} (v : Byte) (h : a.toNat < 0x8000) :
    memRead s a = s.cart.readRom s.params.mbc1Model a.toNat ∧
      memWrite s a v = { s with cart := s.cart.writeControl a.toNat v } := by
  unfold memRead memWrite
  rw [region_rom h]
  exact ⟨rfl, rfl⟩

/-- A bank register whose 0 selects bank 1 (R245, R250, R260). -/
theorem zeroIsOne_eq_max {w : Nat} (b : BitVec w) : (if b = 0#w then 1 else b.toNat) = max 1 b.toNat := by
  split
  next zero => rw [zero]; rfl
  next other =>
    have pos : b.toNat ≠ 0 := fun e => other (BitVec.eq_of_toNat_eq e)
    omega

/-- The bank of 0x0000-0x3FFF (R247). -/
theorem Controller.lowBank_eq (model : Mbc1Model) (ctrl : Controller) :
    ctrl.lowBank model = mappedBank model ctrl false := by
  cases ctrl with
  | a r => cases model <;> simp [lowBank, mappedBank, Nat.mul_comm]
  | none | b | c | d => rfl

/-- The bank of 0x4000-0x7FFF (R240, R247, R253, R262, R272). -/
theorem Controller.highBank_eq (model : Mbc1Model) (ctrl : Controller) :
    ctrl.highBank model = mappedBank model ctrl true := by
  cases ctrl with
  | a r =>
    have one : r.bank1' = max 1 r.bank1.toNat := zeroIsOne_eq_max r.bank1
    cases model <;> cases mode : r.mode <;> simp [highBank, mappedBank, one, mode, Nat.mul_comm]
  | b r => exact zeroIsOne_eq_max r.romBank
  | c r => exact zeroIsOne_eq_max r.romBank
  | none | d => rfl

/-- The byte of the image that an address below 0x8000 shows (R230). -/
theorem Cart.readRom_eq (model : Mbc1Model) (c : Cart) (a : Nat) :
    c.readRom model a =
      c.rom.read (mappedBank model c.ctrl (decide (0x4000 ≤ a)) % c.nrom * 0x4000 + a % 0x4000) := by
  unfold Cart.readRom Cart.romAt
  split
  next low => rw [Controller.lowBank_eq, decide_eq_false (by omega)]; rfl
  next high => rw [Controller.highBank_eq, decide_eq_true (by omega)]; rfl

/-- The enable command (R246, R251, R261, R271). -/
theorem enables_eq (v : Byte) : (field v 3 0 == 0xA) = decide (v.toNat % 16 = 0xA) := by
  rw [beq_eq_decide, field, Nat.pow_zero, Nat.div_one]
  rfl

/-- A register that takes the low bits of a command. -/
theorem lowBits_toNat {w : Nat} (v : BitVec w) (n : Nat) : (v.extractLsb' 0 n).toNat = v.toNat % 2 ^ n := by
  rw [extractLsb'_eq_ofNat, BitVec.toNat_ofNat, Nat.pow_zero, Nat.div_one]

/-- The mode bit of a command (R246). -/
theorem lowBit_eq (v : Byte) : v.getLsbD 0 = decide (v.toNat % 2 = 1) := Nat.testBit_zero v.toNat

/-- The high bits of a register above its low bits (R271). -/
theorem append_toNat {m n : Nat} (high : BitVec m) (low : BitVec n) :
    (high ++ low).toNat = high.toNat * 2 ^ n + low.toNat := by
  rw [BitVec.toNat_append, ← Nat.shiftLeft_add_eq_or_of_lt low.isLt, Nat.shiftLeft_eq]

/-- The high bit of variant D's 9-bit ROM bank (R270). -/
theorem romBank_high_toNat (b : BitVec 9) : (b.extractLsb' 8 1).toNat = b.toNat / 256 := by
  have lt := b.isLt
  rw [extractLsb'_eq_ofNat, BitVec.toNat_ofNat]
  omega

/-- The commands of variant A: each address range writes one register, and outside it the register stays (R246). -/
theorem Mbc1.writeControl_commanded (r : Mbc1) (a : Nat) (v : Byte) :
    commanded a v (.a r) (.a (r.writeControl a v)) := by
  unfold Mbc1.writeControl
  split_ifs
  all_goals
    refine ⟨_, rfl, ?_⟩
    simp (disch := omega) only [if_pos, if_neg, enables_eq, lowBits_toNat, lowBit_eq]
    trivial

/-- The commands of variant B, told apart by bit 8 of the address (R251). -/
theorem Mbc2.writeControl_commanded (r : Mbc2) (a : Nat) (v : Byte) :
    commanded a v (.b r) (.b (r.writeControl a v)) := by
  have bit8 : a.testBit 8 = decide (a / 256 % 2 = 1) := Nat.testBit_eq_decide_div_mod_eq
  unfold Mbc2.writeControl
  rw [bit8]
  simp only [decide_eq_true_eq]
  split_ifs
  all_goals
    refine ⟨_, rfl, ?_⟩
    simp (disch := omega) only [if_pos, if_neg, enables_eq, lowBits_toNat]
    trivial

/-- The commands of variant C, the last of which latches the clock on a 0 followed by a 1 (R261). -/
theorem Mbc3.writeControl_commanded (r : Mbc3) (a : Nat) (v : Byte) :
    commanded a v (.c r) (.c (r.writeControl a v)) := by
  unfold Mbc3.writeControl
  split_ifs
  all_goals
    refine ⟨_, rfl, ?_⟩
    simp (disch := grind) only [if_pos, if_neg, enables_eq, lowBits_toNat]
    trivial

/-- The commands of variant D, whose ROM bank takes two (R271). -/
theorem Mbc5.writeControl_commanded (r : Mbc5) (a : Nat) (v : Byte) :
    commanded a v (.d r) (.d (r.writeControl a v)) := by
  unfold Mbc5.writeControl
  split_ifs
  all_goals
    refine ⟨_, rfl, ?_⟩
    simp (disch := omega) only [if_pos, if_neg, enables_eq, lowBits_toNat, append_toNat, romBank_high_toNat]
    trivial

/-- A bank-controller command, variant by variant (R240). -/
theorem Controller.writeControl_commanded (ctrl : Controller) (a : Nat) (v : Byte) :
    commanded a v ctrl (ctrl.writeControl a v) :=
  match ctrl with
  | .none => rfl
  | .a r => r.writeControl_commanded a v
  | .b r => r.writeControl_commanded a v
  | .c r => r.writeControl_commanded a v
  | .d r => r.writeControl_commanded a v

/-- External RAM that is disabled shows nothing (R231). -/
theorem Cart.ramTarget_disabled {c : Cart} (a : Nat) (h : ramEnabled c.ctrl = false) : c.ramTarget a = .nothing := by
  unfold Cart.ramTarget
  cases ctrl : c.ctrl with
  | none => rw [ctrl] at h; cases h
  | c r =>
    rw [ctrl] at h
    have off : r.ramEnable = false := h
    simp [Cart.mbc3Target, Cart.ramCell, off]
  | a r | b r | d r =>
    rw [ctrl] at h
    have off : r.ramEnable = false := h
    simp [Cart.ramCell, off]

/-- External RAM at the bank the controller maps (R240, R248, R263, R273). -/
theorem Cart.ramTarget_mapped {c : Cart} (a : Nat) {b : Nat} (h : mappedRam c.ctrl = some b) :
    c.ramTarget a = c.ramCell (ramEnabled c.ctrl) b a := by
  unfold Cart.ramTarget
  cases ctrl : c.ctrl with
  | b r => rw [ctrl] at h; cases h
  | c r =>
    rw [ctrl] at h
    obtain ⟨bank, e⟩ := Option.ite_none_right_eq_some.mp h
    cases e
    exact if_pos bank
  | none | a r | d r =>
    rw [ctrl] at h
    cases h
    rfl

/-- External RAM enabled and present, at the bank the controller maps (R230). -/
theorem Cart.ramTarget_cell {c : Cart} (a : Nat) {b : Nat} (on : ramEnabled c.ctrl = true)
    (bank : mappedRam c.ctrl = some b) (present : c.ramSize ≠ 0) : c.ramTarget a = .cell (c.eramIndex b a) := by
  rw [Cart.ramTarget_mapped a bank, on]
  exact if_pos (bne_iff_ne.mpr present)

/-- External RAM disabled or absent (R231). -/
theorem Cart.ramTarget_closed {c : Cart} (a : Nat)
    (h : ramEnabled c.ctrl = false ∨ ((mappedRam c.ctrl).isSome = true ∧ c.ramSize = 0)) :
    c.ramTarget a = .nothing := by
  rcases h with off | ⟨bank, absent⟩
  · exact Cart.ramTarget_disabled a off
  · obtain ⟨b, mapped⟩ := Option.isSome_iff_exists.mp bank
    rw [Cart.ramTarget_mapped a mapped, Cart.ramCell, Cart.hasRam, absent]
    exact if_neg (by simp)

/-- Variant B's cells while they are enabled (R252). -/
theorem Cart.ramTarget_nibble {c : Cart} {r : Mbc2} (a : Nat) (ctrl : c.ctrl = .b r) (on : r.ramEnable = true) :
    c.ramTarget a = .nibble ((a - 0xA000) % 512) := by
  rw [Cart.ramTarget, ctrl]
  exact if_pos on

/-- Variant C's selectors of no RAM bank and no clock register, or of a register that the type has not (R263). -/
theorem Cart.ramTarget_unselected {c : Cart} {r : Mbc3} (a : Nat) (ctrl : c.ctrl = .c r) (high : 4 ≤ r.sel.toNat)
    (h : r.clock = none ∨ r.sel.toNat < 8 ∨ 12 < r.sel.toNat) : c.ramTarget a = .nothing := by
  rw [Cart.ramTarget, ctrl]
  simp only [Cart.mbc3Target, Nat.not_lt.mpr high, if_false]
  rcases h with clock | sel
  · simp only [clock, ite_self]
  · refine if_neg ?_
    simp only [Bool.and_eq_true, decide_eq_true_eq]
    omega

/-- Variant C's selectors of the clock registers (R263). -/
theorem Cart.ramTarget_register {c : Cart} {r : Mbc3} {k : Clock} (a : Nat) (ctrl : c.ctrl = .c r)
    (on : r.ramEnable = true) (clock : r.clock = some k) (l : 8 ≤ r.sel.toNat) (h : r.sel.toNat ≤ 12) :
    c.ramTarget a = .clock k r.sel.toNat := by
  rw [Cart.ramTarget, ctrl]
  have bank : ¬r.sel.toNat < 4 := by omega
  simp only [Cart.mbc3Target, bank, if_false, on, l, h, clock, decide_true, Bool.and_self, if_true]

/-- What a read that reaches the target shows (R231, R252, R263). -/
def RamTarget.read (sentinel : Byte) (c : Cart) : RamTarget → Byte
  | .cell i => c.eram.read i
  | .nibble i => 0xF0#8 ||| c.eram.read i
  | .clock k sel => k.latched.get sel
  | .nothing => sentinel

/-- What a write of `v` that reaches the target leaves of the cartridge (R231, R252, R263). -/
def RamTarget.write (c : Cart) (v : Byte) : RamTarget → Cart
  | .cell i => { c with eram := c.eram.write i v }
  | .nibble i => { c with eram := c.eram.write i (v &&& 0x0F#8) }
  | .clock k sel => { c with ctrl := c.ctrl.setClock (k.set sel v) }
  | .nothing => c

/-- An access to 0xA000-0xBFFF, by what it reaches (R155, R230). -/
theorem bus_eram {s : State} {a : Word} {t : RamTarget} (v : Byte) (l : 0xA000 ≤ a.toNat) (h : a.toNat < 0xC000)
    (target : s.cart.ramTarget a.toNat = t) :
    memRead s a = t.read s.params.sentinel s.cart ∧ memWrite s a v = { s with cart := t.write s.cart v } := by
  subst target
  unfold memRead memWrite
  rw [region_eram l h]
  exact ⟨rfl, rfl⟩

/-- A clock register by its selector, as a number (R260). -/
theorem ClockRegs.get_toNat (k : ClockRegs) (sel : BitVec 4) :
    (k.get sel.toNat).toNat =
      if sel = 8#4 then k.s.toNat else if sel = 9#4 then k.m.toNat else if sel = 10#4 then k.hr.toNat
      else if sel = 11#4 then k.dl.toNat else k.dh.toNat := by
  simp only [ClockRegs.get, BitVec.toNat_eq, BitVec.reduceToNat]
  split_ifs
  · exact BitVec.toNat_setWidth_of_le (by decide)
  · exact BitVec.toNat_setWidth_of_le (by decide)
  · exact BitVec.toNat_setWidth_of_le (by decide)
  · rfl
  · rfl

/-- A write to a clock register reaches the one selected, within its bits (R260, R263). -/
theorem ClockRegs.set_eq (k : ClockRegs) {sel : BitVec 4} (v : Byte) (l : 8 ≤ sel.toNat) (h : sel.toNat ≤ 12) :
    (k.set sel.toNat v).s.toNat = (if sel = 8#4 then v.toNat % 64 else k.s.toNat) ∧
      (k.set sel.toNat v).m.toNat = (if sel = 9#4 then v.toNat % 64 else k.m.toNat) ∧
      (k.set sel.toNat v).hr.toNat = (if sel = 10#4 then v.toNat % 32 else k.hr.toNat) ∧
      (k.set sel.toNat v).dl = (if sel = 11#4 then v else k.dl) ∧
      (k.set sel.toNat v).dh = (if sel = 12#4 then v &&& 0xC1#8 else k.dh) := by
  have named : sel = 8#4 ∨ sel = 9#4 ∨ sel = 10#4 ∨ sel = 11#4 ∨ sel = 12#4 := by bv_omega
  rcases named with rfl | rfl | rfl | rfl | rfl
  · exact ⟨lowBits_toNat v 6, rfl, rfl, rfl, rfl⟩
  · exact ⟨rfl, lowBits_toNat v 6, rfl, rfl, rfl⟩
  · exact ⟨rfl, rfl, lowBits_toNat v 5, rfl, rfl⟩
  · exact ⟨rfl, rfl, rfl, rfl, rfl⟩
  · exact ⟨rfl, rfl, rfl, rfl, rfl⟩

/-- Variant C's clock registers on the bus (R263). -/
theorem clockAccess_of_register {s : State} {a : Word} {r : Mbc3} {k : Clock} (v : Byte) (l : 0xA000 ≤ a.toNat)
    (h : a.toNat < 0xC000) (ctrl : s.cart.ctrl = .c r) (on : r.ramEnable = true) (clock : r.clock = some k)
    (low : 8 ≤ r.sel.toNat) (high : r.sel.toNat ≤ 12) : clockAccess s a v r k := by
  obtain ⟨read, write⟩ := bus_eram v l h (Cart.ramTarget_register a.toNat ctrl on clock low high)
  refine ⟨?read, k.set r.sel.toNat v, ?write, rfl, ?sub, k.live.set_eq v low high⟩
  case read => exact (congrArg BitVec.toNat read).trans (k.latched.get_toNat r.sel)
  case write => rw [write, RamTarget.write, ctrl, Controller.setClock, clock]; rfl
  case sub => simp only [Clock.set, BitVec.toNat_eq, BitVec.reduceToNat]

/-- Settles O56: the image by the mapped bank, a command register by register, and external RAM by what an access
reaches (`Cart.ramTarget`). -/
theorem cartridgeBanks : Obligations.CartridgeBanks := by
  intro s a v
  refine ⟨fun rom => ?image, fun rom => ⟨_, (bus_rom s v rom).2, Controller.writeControl_commanded _ _ _⟩,
    fun l h => ⟨fun closed => bus_eram v l h (Cart.ramTarget_closed _ closed), ?mapped, ?nibble,
      fun r ctrl on high => ⟨fun unselected => bus_eram v l h (Cart.ramTarget_unselected _ ctrl high unselected),
        fun k clock low top => clockAccess_of_register v l h ctrl on clock low top⟩⟩⟩
  case image => rw [(bus_rom s v rom).1, Cart.readRom_eq]
  case mapped =>
    intro b on bank present i index
    rw [index]
    exact bus_eram v l h (Cart.ramTarget_cell _ on bank present)
  case nibble =>
    intro r ctrl on i index
    rw [index]
    exact bus_eram v l h (Cart.ramTarget_nibble _ ctrl on)

end Sys2Proof.Machine
end

section
/-! PROOF. The decoder and the encoder, and the effect of the row `prefixCb` and of the undefined opcodes (R300 to R341). -/

namespace Sys2Proof.Machine

/-! ## The opcode maps, cell by cell (R320, R321) -/

/-- A value for every opcode, laid out as the maps are: row the high nibble, column the low nibble (R320). -/
def opcodeTable {β : Type} (g : Byte → β) : List (List β) :=
  (List.range 16).map fun r => (List.range 16).map fun c => g (BitVec.ofNat 8 (16 * r + c))

/-- The cell of a table at an opcode, read as `cellAt` reads a map. -/
theorem opcodeTable_cell {β : Type} (g : Byte → β) (op : Byte) (d : β) :
    ((opcodeTable g).getD (op.toNat / 16) []).getD (op.toNat % 16) d = g op := by
  have row : op.toNat / 16 < 16 := by omega
  have column : op.toNat % 16 < 16 := by omega
  simp [opcodeTable, row, column, Nat.div_add_mod]

/-- A fact about every cell of a map, from the table of the facts. -/
theorem cellAt_of_table {β : Type} {f : Instr → β} {g : Byte → β} {m : List (List Instr)}
    (table : m.map (List.map f) = opcodeTable g) (op : Byte) : f (cellAt m op) = g op := by
  rw [← opcodeTable_cell g op (f .nop), ← table, cellAt, ← List.map_nil (f := f), List.getD_map, List.getD_map]

/-- The map of R320 holds at each opcode an instruction of that opcode, with as many of the operand bytes as its format
has. -/
theorem mainMap_encode (w : Word) :
    (mainMap (lo w) w).map (List.map encode) = opcodeTable fun op => [op, lo w, hi w].take (instrLength op) := rfl

/-- `prefixCb` is the only cell of the map of R320 that is no instruction (log 18). -/
theorem mainMap_wf (n : Byte) (w : Word) : (mainMap n w).map (List.map Instr.wf) = opcodeTable (· != 0xCB#8) := rfl

/-- The map of R321 holds at each byte an instruction whose bytes are 0xCB and that byte. -/
theorem cbMap_encode : cbMap.map (List.map encode) = opcodeTable fun op2 => [0xCB#8, op2] := rfl

/-- No cell of the map of R321 is `prefixCb`. -/
theorem cbMap_wf : cbMap.map (List.map Instr.wf) = opcodeTable fun _ => true := rfl

/-- Each cell of the map of R321 does what the fields `gg bbb rrr` of its byte say (R310). -/
theorem cbMap_exec : cbMap.map (List.map exec) = opcodeTable prefixed := rfl

/-! ## Decoding -/

theorem instrLength_le (op : Byte) : instrLength op ≤ 3 := by
  unfold instrLength
  cases formatOf op <;> decide

/-- Three bytes are enough for any instruction (R300). -/
theorem decode_three (op b1 b2 : Byte) (rest : List Byte) :
    decode (op :: b1 :: b2 :: rest) = .ok (decode3 op b1 b2, (b1 :: b2 :: rest).drop (instrLength op - 1)) := by
  have enough : ¬(b1 :: b2 :: rest).length + 1 < instrLength op := by
    have short := instrLength_le op
    simp only [List.length_cons]
    omega
  exact if_neg enough

/-- The encoding of a decoded instruction is the bytes it was decoded from (R309, R310). -/
theorem encode_decode3 (op : Byte) (w : Word) :
    encode (decode3 op (lo w) (hi w)) = [op, lo w, hi w].take (instrLength op) := by
  unfold decode3
  split
  next pre =>
    rw [pre]
    exact cellAt_of_table cbMap_encode (lo w)
  next =>
    rw [hilo_hi_lo]
    exact cellAt_of_table (mainMap_encode w) op

/-- No bytes decode to `prefixCb` (log 18). -/
theorem decode3_wf (op b1 b2 : Byte) : (decode3 op b1 b2).wf = true := by
  unfold decode3
  split
  next => exact cellAt_of_table cbMap_wf b1
  next other => exact (cellAt_of_table (mainMap_wf b1 _) op).trans (bne_iff_ne.mpr other)

/-- The instruction whose first bytes are `bytes`, `x` and `y` being the bytes that follow. -/
def readInstr : List Byte → Byte → Byte → Instr
  | [op], x, y => decode3 op x y
  | [op, b], x, _ => decode3 op b x
  | op :: b :: c :: _, _, _ => decode3 op b c
  | [], _, _ => .nop

/-- Bytes as long as their first byte asks for decode on their own, what follows being left (R300). -/
theorem decode_append {bytes : List Byte} (length : bytes.length = instrLength (bytes.headD 0x00#8))
    (rest : List Byte) :
    decode (bytes ++ rest) = .ok (readInstr bytes (rest.getD 0 0x00#8) (rest.getD 1 0x00#8), rest) := by
  match bytes with
  | [] => exact absurd length (by decide)
  | [op] | [op, b] | [op, b, c] =>
    simp only [List.headD_cons] at length
    simp [decode, readInstr, ← length]
  | op :: b :: c :: d :: more =>
    have short := instrLength_le op
    simp only [List.headD_cons, List.length_cons] at length
    omega

/-- Every encoding is as long as its first byte asks for (R300, R301). -/
theorem encode_length (i : Instr) : Laws.F.Statement i := by
  cases i <;> rfl

/-- Reading the bytes of a well-formed instruction gives it back, whatever follows; an `n16` is put together from its
two bytes (R308). -/
theorem readInstr_encode {i : Instr} (wf : i.wf = true) (x y : Byte) : readInstr (encode i) x y = i := by
  cases i
  case prefixCb => cases wf
  case ldAAtN16 w | ldAtN16A w | ldBcN16 w | ldDeN16 w | ldHlN16 w | ldSpN16 w | ldAtN16Sp w | jpN16 w | jpNzN16 w |
      jpZN16 w | jpNcN16 w | jpCN16 w | callN16 w | callNzN16 w | callZN16 w | callNcN16 w | callCN16 w =>
    exact congrArg _ (hilo_hi_lo w)
  all_goals rfl

/-- Settles O1: an encoding is as long as its first byte asks for, so the decoder reads it and nothing of what follows. -/
theorem decodeEncode : Obligations.DecodeEncode := by
  intro i rest wf
  rw [decode_append (encode_length i) rest, readInstr_encode wf]

/-- Settles O2, cell by cell of the two maps (`encode_decode3`). -/
theorem encodeDecode : Obligations.EncodeDecode := by
  intro op b1 b2 rest
  refine ⟨decode3 op b1 b2, decode_three op b1 b2 rest, decode3_wf op b1 b2, ?bytes⟩
  have bytes := encode_decode3 op (hilo b2 b1)
  rwa [lo_hilo, hi_hilo] at bytes

/-- Settles O3: each word is an encoding (`decodeEncode`), and 0xCB alone is one byte short. -/
theorem specWords : Obligations.SpecWords :=
  ⟨decodeEncode .ldBC [] rfl, decodeEncode (.ldAN8 0x05#8) [] rfl, decodeEncode (.ldAtN16A 0xC234#16) [] rfl,
    decodeEncode .pushAf [] rfl, decodeEncode .sbcAAtHl [] rfl, decodeEncode (.cpN8 0x40#8) [] rfl,
    decodeEncode .incAtHl [] rfl, decodeEncode .decDe [] rfl, decodeEncode .addHlSp [] rfl, decodeEncode .rla [] rfl,
    decodeEncode .swapA [] rfl, decodeEncode .bit7H [] rfl, decodeEncode (.jrZE8 0x10#8) [] rfl,
    decodeEncode (.callCN16 0x3000#16) [] rfl, decodeEncode .rst28 [] rfl, decodeEncode .halt [] rfl,
    decodeEncode .undefD3 [] rfl, rfl⟩

/-! ## The row `prefixCb` and the undefined opcodes -/

/-- Settles O4: the row and the cell of R321 are one function of the state, which always answers a next state. -/
theorem prefixRunsEntry : Obligations.PrefixRunsEntry := by
  intro op2 s
  obtain ⟨t, next, -⟩ := prefixed_does op2 s
  refine ⟨t, next, ?cell⟩
  rw [cellAt_of_table cbMap_exec op2]
  exact next

/-- The eleven undefined rows by their bytes (R340). -/
theorem undefinedRow_exec {op : Byte} {i : Instr} (row : (op, i) ∈ Forms.undefinedRow) :
    encode i = [op] ∧ exec i = undefinedOpcode op := by
  have table : Forms.undefinedRow.map (fun p => (encode p.2, exec p.2)) =
      Forms.undefinedRow.map fun p => ([p.1], undefinedOpcode p.1) := rfl
  exact Prod.mk.inj (List.map_inj_left.mp table (op, i) row)

/-- Nothing follows an instruction that has recorded a fatal condition (R800, R802, R881). -/
theorem finishIteration_of_fatal {s : State} {u : UndefinedOpcode} (fatal : s.cpu.fatal = some u) :
    finishIteration s.afterInstr = s := by
  simp [finishIteration, State.afterInstr, fatal]

/-- The step after a fatal condition answers the fault that names it (R802; log 1). -/
theorem step_of_fatal {s : State} {u : UndefinedOpcode} (fatal : s.cpu.fatal = some u) :
    step s = .fault (.undefinedOpcode u.op u.addr) := by
  simp [step, iteration, fatal]

/-- Settles O37: each row raises the fatal condition of its byte, after which no device advances and no step
executes. -/
theorem undefinedOpcodes : Obligations.UndefinedOpcodes := by
  intro op i s row
  obtain ⟨bytes, raises⟩ := undefinedRow_exec row
  have fatal : (raiseUndefined op s).cpu.fatal = some { op := op, addr := s.cpu.opAddr } := rfl
  exact ⟨bytes, raiseUndefined op s, congrFun raises s, rfl, finishIteration_of_fatal fatal, step_of_fatal fatal⟩

end Sys2Proof.Machine
end

section
/-! PROOF. Loads, stores and the stack (R400 to R424): what each form's bytes are, what it loads or stores, and its
frame. The theorems that settle the statements are in `Loads`: in `Machine` some of their names are operations. -/

namespace Sys2Proof.Machine

/-! ## Frames: what an operation leaves unchanged -/

theorem SameControl.trans {s t u : State} (h : SameControl s t) (g : SameControl t u) : SameControl s u := by
  obtain ⟨ime, delay, halted, stopped, bug, fatal, addr⟩ := h
  obtain ⟨ime', delay', halted', stopped', bug', fatal', addr'⟩ := g
  exact ⟨ime'.trans ime, delay'.trans delay, halted'.trans halted, stopped'.trans stopped, bug'.trans bug,
    fatal'.trans fatal, addr'.trans addr⟩

theorem SameOutside.trans {s t u : State} (h : SameOutside s t) (g : SameOutside t u) : SameOutside s u := by
  unfold SameOutside at h g
  rw [h] at g
  exact g

/-- Reads follow the state outside the processor, so only the control state has to be compared. -/
theorem NoStore.of_outside {s t : State} (control : SameControl s t) (stall : t.cpu.dmaStall = s.cpu.dmaStall)
    (outside : SameOutside s t) : NoStore s t :=
  ⟨control, stall, outside, memRead_congr outside⟩

theorem NoStore.trans {s t u : State} (h : NoStore s t) (g : NoStore t u) : NoStore s u :=
  .of_outside (h.control.trans g.control) (g.stall.trans h.stall) (h.outside.trans g.outside)

theorem NoStore.refl (s : State) : NoStore s s := .of_outside ⟨rfl, rfl, rfl, rfl, rfl, rfl, rfl⟩ rfl rfl

theorem NoStore.setReg (s : State) (r : Reg8) (v : Byte) : NoStore s (s.setReg r v) := by
  cases r <;> exact .of_outside ⟨rfl, rfl, rfl, rfl, rfl, rfl, rfl⟩ rfl rfl

theorem NoStore.setHl (s : State) (w : Word) : NoStore s (s.setHl w) :=
  .of_outside ⟨rfl, rfl, rfl, rfl, rfl, rfl, rfl⟩ rfl rfl

theorem NoStore.setSp (s : State) (w : Word) : NoStore s (s.setSp w) :=
  .of_outside ⟨rfl, rfl, rfl, rfl, rfl, rfl, rfl⟩ rfl rfl

theorem NoStore.setPair (s : State) (p : Pair) (w : Word) : NoStore s (s.setPair p w) := by
  cases p <;> exact .of_outside ⟨rfl, rfl, rfl, rfl, rfl, rfl, rfl⟩ rfl rfl

theorem NoStore.setStackPair (s : State) (q : StackPair) (w : Word) : NoStore s (s.setStackPair q w) := by
  cases q <;> exact .of_outside ⟨rfl, rfl, rfl, rfl, rfl, rfl, rfl⟩ rfl rfl

theorem NoStore.bumpPointer (s : State) (p : Pointer) : NoStore s (s.bumpPointer p) := by
  cases p with
  | bc => exact .refl s
  | de => exact .refl s
  | hlInc => exact .setHl s _
  | hlDec => exact .setHl s _

theorem SameRegisters.trans {s t u : State} (h : SameRegisters s t) (g : SameRegisters t u) : SameRegisters s u := by
  obtain ⟨regs, f, sp, pc⟩ := h
  obtain ⟨regs', f', sp', pc'⟩ := g
  exact ⟨fun x => (regs' x).trans (regs x), f'.trans f, sp'.trans sp, pc'.trans pc⟩

/-- Equal registers make equal pairs (R51). -/
theorem SameRegisters.pairs {s t : State} (h : SameRegisters s t) : t.bc = s.bc ∧ t.de = s.de ∧ t.hl = s.hl := by
  obtain ⟨regs, -⟩ := h
  exact ⟨congrArg₂ hilo (regs .b) (regs .c), congrArg₂ hilo (regs .d) (regs .e), congrArg₂ hilo (regs .h) (regs .l)⟩

theorem SameRegisters.getPair {s t : State} (h : SameRegisters s t) (p : Pair) : t.getPair p = s.getPair p := by
  obtain ⟨bc, de, hl⟩ := h.pairs
  obtain ⟨-, -, sp, -⟩ := h
  cases p <;> assumption

theorem SameRegisters.getStackPair {s t : State} (h : SameRegisters s t) (q : StackPair) :
    t.getStackPair q = s.getStackPair q := by
  obtain ⟨bc, de, hl⟩ := h.pairs
  obtain ⟨regs, f, -, -⟩ := h
  cases q with
  | bc => exact bc
  | de => exact de
  | hl => exact hl
  | af => exact congrArg₂ hilo (regs .a) (congrArg Flags.toByte f)

/-- An instruction ends by setting the cycle count and nothing else (R15). -/
theorem done_next (n : Nat) (s : State) :
    ∃ t, done n s = .next t ∧ t.cpu.cycles = n ∧ SameRegisters s t ∧ NoStore s t :=
  ⟨_, rfl, rfl, ⟨fun _ => rfl, rfl, rfl, rfl⟩, .of_outside ⟨rfl, rfl, rfl, rfl, rfl, rfl, rfl⟩ rfl rfl⟩

/-! ## Bus writes -/

theorem memWrite_sameControl (s : State) (a : Word) (v : Byte) : SameControl s (memWrite s a v) := by
  rw [SameControl, memWrite_cpu]
  exact ⟨rfl, rfl, rfl, rfl, rfl, rfl, rfl⟩

theorem memWrite_sameRegisters (s : State) (a : Word) (v : Byte) : SameRegisters s (memWrite s a v) := by
  have cpu := memWrite_cpu s a v
  generalize (memWrite s a v).cpu.dmaStall = stall at cpu
  refine ⟨State.getReg_congr (s := s.withCpu { s.cpu with dmaStall := stall }) cpu, ?_⟩
  rw [cpu]
  exact ⟨rfl, rfl, rfl⟩

theorem memWrite_two_sameRegisters (s : State) (a b : Word) (v w : Byte) :
    SameRegisters s (memWrite (memWrite s a v) b w) :=
  (memWrite_sameRegisters s a v).trans (memWrite_sameRegisters _ b w)

/-- Only the processor changes after one bus write: the frame of `Stored`. -/
theorem NoStore.stored {s t : State} {a : Word} {v : Byte} (h : NoStore (memWrite s a v) t) : Stored s t a v where
  control := (memWrite_sameControl s a v).trans h.control
  stall := h.stall
  outside := h.outside
  readBack := fun inv plain => (h.bytes a).trans (memRead_memWrite_same inv plain v)
  bytes := fun b ne => (h.bytes b).trans (memRead_memWrite_other v ne)

/-- Only the processor changes after two bus writes: the frame of `StoredTwo`. -/
theorem NoStore.storedTwo {s t : State} {a b : Word} {v w : Byte} (h : NoStore (memWrite (memWrite s a v) b w) t) :
    StoredTwo s t a v b w where
  control := ((memWrite_sameControl s a v).trans (memWrite_sameControl _ b w)).trans h.control
  stall := h.stall
  outside := h.outside
  readFirst := fun inv plain ne =>
    calc memRead t a = memRead (memWrite (memWrite s a v) b w) a := h.bytes a
      _ = memRead (memWrite s a v) a := memRead_memWrite_other w ne
      _ = v := memRead_memWrite_same inv plain v
  readSecond := fun inv plain => (h.bytes b).trans (memRead_memWrite_same (memWrite_memory a v inv) plain w)
  bytes := fun c ne ne' =>
    calc memRead t c = memRead (memWrite (memWrite s a v) b w) c := h.bytes c
      _ = memRead (memWrite s a v) c := memRead_memWrite_other w ne'
      _ = memRead s c := memRead_memWrite_other v ne

/-! ## Pairs, the pointer forms and the flag byte -/

theorem State.hl_setHl (s : State) (w : Word) : (s.setHl w).hl = w := hilo_hi_lo w

/-- What was written to a pair is read back, and no other pair changes (R303). -/
theorem State.getPair_setPair (s : State) (p q : Pair) (w : Word) :
    (s.setPair p w).getPair q = if q = p then w else s.getPair q := by
  have frame : (s.setPair p w).getPair q = if q = p then (s.setPair p w).getPair p else s.getPair q := by
    cases p <;> cases q <;> rfl
  have back : (s.setPair p w).getPair p = w := by
    cases p with
    | bc | de | hl => exact hilo_hi_lo w
    | sp => rfl
  rw [frame, back]

/-- F keeps bits 7-4 of the byte stored in it (R13, R424). -/
theorem Flags.toByte_ofByte (v : Byte) : (Flags.ofByte v).toByte = v &&& 0xF0#8 := by
  revert v
  decide

/-- F is pushed as its four flags over four zero bits (R55, R422). -/
theorem Flags.toByte_eq_ofNat (f : Flags) :
    f.toByte = BitVec.ofNat 8 (128 * bit f.z + 64 * bit f.n + 32 * bit f.h + 16 * bit f.c) := by
  obtain ⟨z, n, h, c⟩ := f
  revert z n h c
  decide

/-- What was written to a pair of the stack group is read back, of AF's low half bits 7-4 only, and no other pair
changes (R304, R424). -/
theorem State.getStackPair_setStackPair (s : State) (q p : StackPair) (h l : Byte) :
    (s.setStackPair q (hilo h l)).getStackPair p =
      if p = q then hilo h (if q = .af then l &&& 0xF0#8 else l) else s.getStackPair p := by
  have frame : (s.setStackPair q (hilo h l)).getStackPair p =
      if p = q then (s.setStackPair q (hilo h l)).getStackPair q else s.getStackPair p := by
    cases q <;> cases p <;> rfl
  have back : (s.setStackPair q (hilo h l)).getStackPair q = hilo h (if q = .af then l &&& 0xF0#8 else l) := by
    cases q with
    | bc | de | hl => exact hilo_hi_lo _
    | af =>
      rw [if_pos rfl, ← Flags.toByte_ofByte]
      exact congrArg₂ (fun x y => hilo x (Flags.ofByte y).toByte) (hi_hilo h l) (lo_hilo h l)
  rw [frame, back]

/-- Of the stack group AF alone reaches the flags (R304, R424). -/
theorem State.setStackPair_cpu_f (s : State) (q : StackPair) (w : Word) :
    (s.setStackPair q w).cpu.f = if q = .af then Flags.ofByte (lo w) else s.cpu.f := by
  cases q <;> rfl

/-- Where a pointer form leaves HL (R405 to R408, R415 to R418). -/
def Pointer.move (p : Pointer) (hl : Word) : Word :=
  match p with
  | .bc => hl
  | .de => hl
  | .hlInc => hl + 1#16
  | .hlDec => hl - 1#16

theorem State.hl_bumpPointer (s : State) (p : Pointer) : (s.bumpPointer p).hl = p.move s.hl := by
  cases p with
  | bc | de => rfl
  | hlInc | hlDec => exact s.hl_setHl _

theorem State.bumpPointer_keeps (s : State) (p : Pointer) :
    (s.bumpPointer p).bc = s.bc ∧ (s.bumpPointer p).de = s.de ∧ (s.bumpPointer p).cpu.a = s.cpu.a ∧
      (s.bumpPointer p).cpu.f = s.cpu.f ∧ (s.bumpPointer p).cpu.sp = s.cpu.sp ∧
      (s.bumpPointer p).cpu.pc = s.cpu.pc := by
  cases p <;> exact ⟨rfl, rfl, rfl, rfl, rfl, rfl⟩

/-- An instruction of a pointer form ends by moving HL (R405 to R408, R415 to R418). -/
theorem done_bumpPointer (n : Nat) (s : State) (p : Pointer) :
    ∃ t, done n (s.bumpPointer p) = .next t ∧ t.hl = p.move s.hl ∧ t.bc = s.bc ∧ t.de = s.de ∧ t.cpu.a = s.cpu.a ∧
      t.cpu.f = s.cpu.f ∧ t.cpu.sp = s.cpu.sp ∧ t.cpu.pc = s.cpu.pc ∧ t.cpu.cycles = n ∧ NoStore s t := by
  obtain ⟨t, next, cycles, same, frame⟩ := done_next n (s.bumpPointer p)
  obtain ⟨bc, de, hl⟩ := same.pairs
  obtain ⟨regs, f, sp, pc⟩ := same
  obtain ⟨bc', de', a', f', sp', pc'⟩ := s.bumpPointer_keeps p
  exact ⟨t, next, hl.trans (s.hl_bumpPointer p), bc.trans bc', de.trans de', (regs .a).trans a', f.trans f',
    sp.trans sp', pc.trans pc', cycles, (NoStore.bumpPointer s p).trans frame⟩

/-- The high page (R345). -/
theorem highPage_eq (n : Byte) : highPage n = 0xFF00#16 + n.setWidth 16 := by
  apply BitVec.eq_of_toNat_eq
  rw [highPage, hilo, append_toNat]
  bv_omega

/-! ## The rows of the opcode map: bytes and effect (R302 to R304) -/

theorem ldReg_row (dst src : Reg8) :
    encode (Forms.ldReg dst src) = [BitVec.ofNat 8 (0x40 + 8 * Forms.regCode dst + Forms.regCode src)] ∧
      exec (Forms.ldReg dst src) = loadReg dst src := by
  cases dst <;> cases src <;> exact ⟨rfl, rfl⟩

theorem ldImm_row (n : Byte) (dst : Reg8) :
    encode (Forms.ldImm n dst) = [BitVec.ofNat 8 (0x06 + 8 * Forms.regCode dst), n] ∧
      exec (Forms.ldImm n dst) = loadImm dst n := by
  cases dst <;> exact ⟨rfl, rfl⟩

theorem ldAtHl_row (dst : Reg8) :
    encode (Forms.ldAtHl dst) = [BitVec.ofNat 8 (0x46 + 8 * Forms.regCode dst)] ∧
      exec (Forms.ldAtHl dst) = loadAtHl dst := by
  cases dst <;> exact ⟨rfl, rfl⟩

theorem stAtHl_row (r : Reg8) :
    encode (Forms.stAtHl r) = [BitVec.ofNat 8 (0x70 + Forms.regCode r)] ∧
      exec (Forms.stAtHl r) = storeAtHl r := by
  cases r <;> exact ⟨rfl, rfl⟩

theorem ldPair_row (v : Word) (dd : Pair) :
    encode (Forms.ldPair v dd) = Forms.withWord (0x01 + 16 * Forms.pairCode dd) v ∧
      exec (Forms.ldPair v dd) = loadPair dd v := by
  cases dd <;> exact ⟨rfl, rfl⟩

theorem push_row (q : StackPair) :
    encode (Forms.push q) = [BitVec.ofNat 8 (0xC5 + 16 * Forms.stackCode q)] ∧
      exec (Forms.push q) = pushPair q := by
  cases q <;> exact ⟨rfl, rfl⟩

theorem pop_row (q : StackPair) :
    encode (Forms.pop q) = [BitVec.ofNat 8 (0xC1 + 16 * Forms.stackCode q)] ∧
      exec (Forms.pop q) = popPair q := by
  cases q <;> exact ⟨rfl, rfl⟩

theorem ldA_exec (p : Pointer) : exec (Forms.ldA p) = loadA p := by
  cases p <;> rfl

theorem stA_exec (p : Pointer) : exec (Forms.stA p) = storeA p := by
  cases p <;> rfl

/-! ## Loads -/

/-- The load of one register, whatever the source (R400 to R402, R409, R412, R414). -/
theorem done_setReg (n : Nat) (s : State) (r : Reg8) (v : Byte) :
    ∃ t, done n (s.setReg r v) = .next t ∧ (∀ x, t.getReg x = if x = r then v else s.getReg x) ∧ t.cpu.f = s.cpu.f ∧
      t.cpu.sp = s.cpu.sp ∧ t.cpu.pc = s.cpu.pc ∧ t.cpu.cycles = n ∧ NoStore s t := by
  obtain ⟨t, next, cycles, ⟨regs, f, sp, pc⟩, frame⟩ := done_next n (s.setReg r v)
  exact ⟨t, next, fun x => (regs x).trans (s.getReg_setReg r x v), f.trans (s.setReg_cpu_f r v),
    sp.trans (s.setReg_cpu_sp r v), pc.trans (s.setReg_cpu_pc r v), cycles, (NoStore.setReg s r v).trans frame⟩

/-- Settles O6: each row is the load of one register (`done_setReg`). -/
theorem Loads.loadRegister : Obligations.LoadRegister := by
  intro dst src n s
  obtain ⟨regBytes, regExec⟩ := ldReg_row dst src
  obtain ⟨immBytes, immExec⟩ := ldImm_row n dst
  obtain ⟨hlBytes, hlExec⟩ := ldAtHl_row dst
  rw [regExec, immExec, hlExec]
  exact ⟨regBytes, done_setReg 1 s dst _, immBytes, done_setReg 2 s dst n, hlBytes, done_setReg 2 s dst _⟩

/-- Settles O7: A is loaded, then HL moves (`done_bumpPointer`). -/
theorem Loads.loadThroughPointer : Obligations.LoadThroughPointer := by
  intro p s
  have loaded := NoStore.setReg s .a (memRead s (s.pointer p))
  obtain ⟨t, next, hl, bc, de, a, f, sp, pc, cycles, frame⟩ :=
    done_bumpPointer 2 (s.setReg .a (memRead s (s.pointer p))) p
  rw [ldA_exec]
  exact ⟨by cases p <;> rfl, t, next, a, hl, bc, de, f, sp, pc, cycles, loaded.trans frame⟩

/-- Settles O8: each row is the load of A (`done_setReg`) from its own address. -/
theorem Loads.loadAbsolute : Obligations.LoadAbsolute := by
  intro a n s
  rw [← highPage_eq, ← highPage_eq]
  exact ⟨rfl, rfl, rfl, done_setReg 4 s .a _, done_setReg 3 s .a _, done_setReg 2 s .a _⟩

/-- Settles O9: a pair reads back what was written to it (`State.getPair_setPair`). -/
theorem Loads.loadPair : Obligations.LoadPair := by
  intro dd v s
  obtain ⟨bytes, run⟩ := ldPair_row v dd
  rw [run]
  refine ⟨bytes, rfl, ?pair, ?sp⟩
  case pair =>
    obtain ⟨t, next, cycles, same, frame⟩ := done_next 3 (s.setPair dd v)
    have pairs := fun q => (same.getPair q).trans (s.getPair_setPair dd q v)
    obtain ⟨regs, f, -, pc⟩ := same
    exact ⟨t, next, pairs, (regs .a).trans (s.setPair_cpu_a dd v), f.trans (s.setPair_cpu_f dd v),
      pc.trans (s.setPair_cpu_pc dd v), cycles, (NoStore.setPair s dd v).trans frame⟩
  case sp =>
    obtain ⟨t, next, cycles, ⟨regs, f, sp, pc⟩, frame⟩ := done_next 2 (s.setSp s.hl)
    exact ⟨t, next, sp, regs, f, pc, cycles, (NoStore.setSp s s.hl).trans frame⟩

/-- A pop reads two bytes, moves SP and writes the pair (R423, R424). -/
theorem popPair_eq (q : StackPair) (s : State) :
    popPair q s =
      done 3 ((s.setSp (s.cpu.sp + 2#16)).setStackPair q
        (hilo (memRead s (s.cpu.sp + 1#16)) (memRead s s.cpu.sp))) := by
  rw [popPair, pop16_eq]

/-- Settles O10: a pair of the stack group reads back what was written to it, AF by its upper four flag bits
(`State.getStackPair_setStackPair`). -/
theorem Loads.popPair : Obligations.PopPair := by
  intro q s
  obtain ⟨bytes, run⟩ := pop_row q
  rw [run, popPair_eq]
  generalize memRead s (s.cpu.sp + 1#16) = h, memRead s s.cpu.sp = l
  have moved := NoStore.setSp s (s.cpu.sp + 2#16)
  obtain ⟨t, next, cycles, same, frame⟩ := done_next 3 ((s.setSp (s.cpu.sp + 2#16)).setStackPair q (hilo h l))
  have pairs := fun p => (same.getStackPair p).trans (State.getStackPair_setStackPair _ q p h l)
  obtain ⟨-, f, sp, pc⟩ := same
  have flags := f.trans (State.setStackPair_cpu_f _ q _)
  rw [lo_hilo] at flags
  refine ⟨bytes, t, next, (pairs q).trans (if_pos rfl), fun p other => ?others,
    fun other => flags.trans (if_neg other), fun af => ?flags, sp.trans (State.setStackPair_cpu_sp _ q _),
    pc.trans (State.setStackPair_cpu_pc _ q _), cycles, (moved.trans (.setStackPair _ q _)).trans frame⟩
  case others =>
    rw [pairs p, if_neg other]
    cases p <;> rfl
  case flags =>
    rw [flags, if_pos af]
    exact ⟨rfl, rfl, rfl, rfl⟩

/-! ## Stores -/

/-- The store of one byte, whatever the address (R403, R404, R410, R411, R413). -/
theorem done_memWrite (n : Nat) (s : State) (a : Word) (v : Byte) :
    ∃ t, done n (memWrite s a v) = .next t ∧ Stored s t a v ∧ SameRegisters s t ∧ t.cpu.cycles = n := by
  obtain ⟨t, next, cycles, same, frame⟩ := done_next n (memWrite s a v)
  exact ⟨t, next, frame.stored, (memWrite_sameRegisters s a v).trans same, cycles⟩

/-- Settles O11: each row is one store at HL (`done_memWrite`). -/
theorem Loads.storeAtHl : Obligations.StoreAtHl := by
  intro r n s
  obtain ⟨bytes, run⟩ := stAtHl_row r
  rw [run]
  exact ⟨bytes, rfl, done_memWrite 2 s s.hl _, done_memWrite 3 s s.hl n⟩

/-- Settles O12: A is stored, then HL moves (`done_bumpPointer`). -/
theorem Loads.storeThroughPointer : Obligations.StoreThroughPointer := by
  intro p s
  have stored := memWrite_sameRegisters s (s.pointer p) s.cpu.a
  obtain ⟨bc', de', hl'⟩ := stored.pairs
  obtain ⟨regs', f', sp', pc'⟩ := stored
  obtain ⟨t, next, hl, bc, de, a, f, sp, pc, cycles, frame⟩ :=
    done_bumpPointer 2 (memWrite s (s.pointer p) s.cpu.a) p
  rw [stA_exec]
  exact ⟨by cases p <;> rfl, t, next, frame.stored, hl.trans (congrArg p.move hl'), bc.trans bc', de.trans de',
    a.trans (regs' .a), f.trans f', sp.trans sp', pc.trans pc', cycles⟩

/-- Settles O13: three rows are one store (`done_memWrite`), the last is two. -/
theorem Loads.storeAbsolute : Obligations.StoreAbsolute := by
  intro a n s
  rw [← highPage_eq, ← highPage_eq]
  refine ⟨rfl, rfl, rfl, rfl, done_memWrite 4 s a _, done_memWrite 3 s _ _, done_memWrite 2 s _ _, ?sp⟩
  obtain ⟨t, next, cycles, same, frame⟩ := done_next 5 (memWrite16 s a s.cpu.sp)
  exact ⟨t, next, frame.storedTwo, (memWrite_two_sameRegisters ..).trans same, cycles⟩

/-- A push is its two bus writes, then the move of SP (R14). -/
theorem push16_eq_setSp (s : State) (v : Word) :
    push16 s v =
      (memWrite (memWrite s (s.cpu.sp - 1#16) (hi v)) (s.cpu.sp - 2#16) (lo v)).setSp (s.cpu.sp - 2#16) := by
  rw [push16_eq]
  show State.withCpu _ _ = State.withCpu _ { State.cpu _ with sp := _ }
  rw [memWrite_cpu (memWrite s _ _), memWrite_cpu s]

/-- Settles O14: a push is its two bus writes, which leave the registers, and SP moved (`push16_eq_setSp`). -/
theorem Loads.push : Obligations.Push := by
  intro q s
  obtain ⟨bytes, run⟩ := push_row q
  obtain ⟨regs', f', -, pc'⟩ :=
    memWrite_two_sameRegisters s (s.cpu.sp - 1#16) (s.cpu.sp - 2#16) (hi (s.getStackPair q)) (lo (s.getStackPair q))
  obtain ⟨t, next, cycles, ⟨regs, f, sp, pc⟩, frame⟩ := done_next 4 (push16 s (s.getStackPair q))
  rw [push16_eq_setSp] at regs f sp pc frame
  rw [run]
  refine ⟨bytes, t, next, ?stores, sp, fun x => (regs x).trans (regs' x), f.trans f', pc.trans pc', cycles⟩
  case stores =>
    have stores := ((NoStore.setSp _ _).trans frame).storedTwo
    convert stores using 1
    · cases q <;> exact (hi_hilo _ _).symm
    · cases q with
      | bc | de | hl => exact (lo_hilo _ _).symm
      | af =>
        rw [← Flags.toByte_eq_ofNat]
        exact (lo_hilo _ _).symm

end Sys2Proof.Machine
end

section
/-! PROOF. 8-bit arithmetic and logic (R450 to R470): results and flags as numbers, then what each form leaves in the
state. -/

namespace Sys2Proof.Machine

/-! ## Results and flags of the byte operations -/

/-- A carry out of bit 7 is a sum past the byte (R16). -/
theorem carryOut_byte (a s : Byte) (c : Nat) : carryOut 8 a.toNat s.toNat c = decide (256 ≤ a.toNat + s.toNat + c) := by
  rw [carryOut, Nat.mod_eq_of_lt a.isLt, Nat.mod_eq_of_lt s.isLt]
  rfl

/-- A borrow into bit 7 is a difference below 0 (R16). -/
theorem borrowIn_byte (a s : Byte) (c : Nat) : borrowIn 8 a.toNat s.toNat c = decide (a.toNat < s.toNat + c) := by
  rw [borrowIn, Nat.mod_eq_of_lt a.isLt, Nat.mod_eq_of_lt s.isLt]

theorem field_nibble (v : Byte) : field v 3 0 = v.toNat % 16 := congrArg (· % 16) (Nat.div_one v.toNat)

theorem addByte_toNat (a s : Byte) (c : Bool) : (addByte a s c).1.toNat = (a.toNat + s.toNat + bit c) % 256 := by
  simp [addByte]

theorem addByte_flags (a s : Byte) (c : Bool) :
    (addByte a s c).2.are ((addByte a s c).1 == 0#8) false (decide (16 ≤ a.toNat % 16 + s.toNat % 16 + bit c))
      (decide (256 ≤ a.toNat + s.toNat + bit c)) :=
  ⟨rfl, rfl, rfl, carryOut_byte a s (bit c)⟩

theorem subByte_toNat (a s : Byte) (c : Bool) :
    (subByte a s c).1.toNat = (a.toNat + 512 - s.toNat - bit c) % 256 := by
  have borrow : bit c ≤ 1 := by cases c <;> decide
  rw [subByte]
  generalize bit c = k at borrow ⊢
  bv_omega

theorem subByte_flags (a s : Byte) (c : Bool) :
    (subByte a s c).2.are (decide ((a.toNat + 512 - s.toNat - bit c) % 256 = 0)) true
      (decide (a.toNat % 16 < s.toNat % 16 + bit c)) (decide (a.toNat < s.toNat + bit c)) := by
  refine ⟨?zero, rfl, rfl, borrowIn_byte a s (bit c)⟩
  rw [← subByte_toNat]
  exact decide_eq_decide.mpr BitVec.toNat_inj.symm

/-- `ADD` undoes `SUB` of the same operand (R470). -/
theorem addByte_subByte (a s : Byte) : (addByte (subByte a s false).1 s false).1 = a := by
  simp [addByte, subByte, bit]

/-- `SUB` and `CP` answer Z for an operand equal to A (R470). -/
theorem subByte_z_iff (a s : Byte) : (subByte a s false).2.z = true ↔ s = a := by
  have equal : a - s - 0#8 = 0#8 ↔ s = a := by bv_omega
  exact beq_iff_eq.trans equal

theorem incByte_eq_ofNat (v : Byte) (f : Flags) : (incByte v f).1 = BitVec.ofNat 8 (v.toNat + 1) := by
  rw [incByte]
  bv_omega

theorem decByte_eq_ofNat (v : Byte) (f : Flags) : (decByte v f).1 = BitVec.ofNat 8 (v.toNat + 255) := by
  rw [decByte]
  bv_omega

theorem incByte_flags (v : Byte) (f : Flags) :
    (incByte v f).2.are (decide (v.toNat = 255)) false (decide (v.toNat % 16 = 15)) f.c := by
  have zero : v + 1#8 = 0#8 ↔ v.toNat = 255 := by bv_omega
  exact ⟨decide_eq_decide.mpr zero, rfl, congrArg (· == 15) (field_nibble v), rfl⟩

theorem decByte_flags (v : Byte) (f : Flags) :
    (decByte v f).2.are (decide (v.toNat = 1)) true (decide (v.toNat % 16 = 0)) f.c := by
  have zero : v - 1#8 = 0#8 ↔ v.toNat = 1 := by bv_omega
  exact ⟨decide_eq_decide.mpr zero, rfl, congrArg (· == 0) (field_nibble v), rfl⟩

/-! ## Decimal adjustment (R465) -/

/-- The value after the correction by 0x60, the first of the two. -/
def daaFirst (a : Byte) (f : Flags) : Nat :=
  if f.n then (a.toNat + 256 - (if f.c then 0x60 else 0)) % 256
  else (a.toNat + (if f.c ∨ 0x99 < a.toNat then 0x60 else 0)) % 256

theorem ite_add_toNat (p : Prop) [Decidable p] (a k : Byte) :
    (if p then a + k else a).toNat = (a.toNat + if p then k.toNat else 0) % 256 := by
  split <;> bv_omega

theorem ite_sub_toNat (p : Prop) [Decidable p] (a k : Byte) :
    (if p then a - k else a).toNat = (a.toNat + 256 - if p then k.toNat else 0) % 256 := by
  split <;> bv_omega

theorem daaAdd_toNat (a : Byte) (f : Flags) (adds : f.n = false) :
    (daaAdd a f).1.toNat = (daaFirst a f + (if f.h ∨ 9 < daaFirst a f % 16 then 6 else 0)) % 256 := by
  have first : daaFirst a f = (a.toNat + (if f.c ∨ 0x99 < a.toNat then 0x60 else 0)) % 256 := by
    rw [daaFirst, adds]
    rfl
  simp only [daaAdd, ite_add_toNat, field_nibble, first, Bool.or_eq_true, decide_eq_true_eq]
  rfl

theorem daaSub_toNat (a : Byte) (f : Flags) (subtracts : f.n = true) :
    (daaSub a f).1.toNat = (daaFirst a f + 256 - (if f.h then 6 else 0)) % 256 := by
  have first : daaFirst a f = (a.toNat + 256 - (if f.c then 0x60 else 0)) % 256 := by
    rw [daaFirst, subtracts]
    rfl
  simp only [daaSub, ite_sub_toNat, first]
  rfl

theorem daaByte_toNat (a : Byte) (f : Flags) :
    (daaByte a f).1.toNat =
      if f.n then (daaFirst a f + 256 - (if f.h then 6 else 0)) % 256
      else (daaFirst a f + (if f.h ∨ 9 < daaFirst a f % 16 then 6 else 0)) % 256 := by
  cases sign : f.n with
  | true =>
    rw [daaByte, sign]
    exact daaSub_toNat a f sign
  | false =>
    rw [daaByte, sign]
    exact daaAdd_toNat a f sign

theorem daaByte_flags (a : Byte) (f : Flags) :
    (daaByte a f).2.are ((daaByte a f).1 == 0#8) f.n false (f.c || (!f.n && decide (0x99 < a.toNat))) := by
  refine ⟨rfl, rfl, rfl, ?carry⟩
  cases sign : f.n with
  | true => simp [daaByte, sign, daaSub]
  | false => simp [daaByte, sign, daaAdd]

/-! ## The rows of the opcode map: bytes and effect (R302, R306, R450) -/

theorem alu_row (op : AluOp) (src : Source) :
    encode (Forms.alu op src) = Forms.aluBytes op src ∧ exec (Forms.alu op src) = aluA op src := by
  cases src with
  | reg r => cases op <;> cases r <;> exact ⟨rfl, rfl⟩
  | atHl => cases op <;> exact ⟨rfl, rfl⟩
  | imm n => cases op <;> exact ⟨rfl, rfl⟩

theorem inc_row (r : Reg8) :
    encode (Forms.inc r) = [BitVec.ofNat 8 (0x04 + 8 * Forms.regCode r)] ∧ exec (Forms.inc r) = incReg r := by
  cases r <;> exact ⟨rfl, rfl⟩

theorem dec_row (r : Reg8) :
    encode (Forms.dec r) = [BitVec.ofNat 8 (0x05 + 8 * Forms.regCode r)] ∧ exec (Forms.dec r) = decReg r := by
  cases r <;> exact ⟨rfl, rfl⟩

/-! ## What the forms leave in the state -/

theorem NoStore.setFlags (s : State) (g : Flags) : NoStore s (s.setFlags g) :=
  .of_outside ⟨rfl, rfl, rfl, rfl, rfl, rfl, rfl⟩ rfl rfl

/-- An instruction whose result goes to a register, and its flags to F. -/
theorem done_setReg_setFlags (n : Nat) (s : State) (r : Reg8) (v : Byte) (g : Flags) :
    ∃ t, done n ((s.setReg r v).setFlags g) = .next t ∧ t.getReg r = v ∧ t.cpu.f = g ∧
      (∀ x, x ≠ r → t.getReg x = s.getReg x) ∧ t.cpu.sp = s.cpu.sp ∧ t.cpu.pc = s.cpu.pc ∧ t.cpu.cycles = n ∧
      NoStore s t := by
  obtain ⟨t, next, cycles, ⟨regs, f, sp, pc⟩, frame⟩ := done_next n ((s.setReg r v).setFlags g)
  have written := fun x => (regs x).trans ((State.getReg_setFlags _ g x).trans (s.getReg_setReg r x v))
  exact ⟨t, next, (written r).trans (if_pos rfl), f, fun x other => (written x).trans (if_neg other),
    sp.trans (s.setReg_cpu_sp r v), pc.trans (s.setReg_cpu_pc r v), cycles,
    ((NoStore.setReg s r v).trans (.setFlags _ g)).trans frame⟩

/-- An instruction whose result is offered to the bus, and its flags to F. -/
theorem done_memWrite_setFlags (n : Nat) (s : State) (a : Word) (v : Byte) (g : Flags) :
    ∃ t, done n ((memWrite s a v).setFlags g) = .next t ∧ Stored s t a v ∧ t.cpu.f = g ∧
      (∀ x, t.getReg x = s.getReg x) ∧ t.cpu.sp = s.cpu.sp ∧ t.cpu.pc = s.cpu.pc ∧ t.cpu.cycles = n := by
  obtain ⟨t, next, cycles, ⟨regs, f, sp, pc⟩, frame⟩ := done_next n ((memWrite s a v).setFlags g)
  obtain ⟨regs', -, sp', pc'⟩ := memWrite_sameRegisters s a v
  exact ⟨t, next, ((NoStore.setFlags _ g).trans frame).stored, f,
    fun x => (regs x).trans ((State.getReg_setFlags _ g x).trans (regs' x)), sp.trans sp', pc.trans pc', cycles⟩

/-- An instruction that changes F alone. -/
theorem done_setFlags (n : Nat) (s : State) (g : Flags) :
    ∃ t, done n (s.setFlags g) = .next t ∧ t.cpu.f = g ∧ (∀ x, t.getReg x = s.getReg x) ∧ t.cpu.sp = s.cpu.sp ∧
      t.cpu.pc = s.cpu.pc ∧ t.cpu.cycles = n ∧ NoStore s t := by
  obtain ⟨t, next, cycles, ⟨regs, f, sp, pc⟩, frame⟩ := done_next n (s.setFlags g)
  exact ⟨t, next, f, fun x => (regs x).trans (s.getReg_setFlags g x), sp, pc, cycles,
    (NoStore.setFlags s g).trans frame⟩

/-- An operation of the ALU group leaves its result in A and its flags in F. -/
theorem exec_alu (op : AluOp) (src : Source) (s : State) :
    ∃ t, exec (Forms.alu op src) s = .next t ∧ t.cpu.a = (alu op s.cpu.a (s.source src) s.cpu.f).1 ∧
      t.cpu.f = (alu op s.cpu.a (s.source src) s.cpu.f).2 ∧ (∀ x, x ≠ .a → t.getReg x = s.getReg x) ∧
      t.cpu.sp = s.cpu.sp ∧ t.cpu.pc = s.cpu.pc ∧ t.cpu.cycles = src.cycles ∧ NoStore s t := by
  rw [(alu_row op src).2]
  exact done_setReg_setFlags src.cycles s .a _ _

/-- Operands other than A are the same where the other registers and the bytes are. -/
theorem State.source_congr {s t : State} {src : Source} (regs : ∀ x, x ≠ .a → t.getReg x = s.getReg x)
    (bytes : ∀ a, memRead t a = memRead s a) (other : src ≠ .reg .a) : t.source src = s.source src := by
  cases src with
  | reg r => exact regs r fun a => other (congrArg Source.reg a)
  | atHl =>
    have hl : t.hl = s.hl := congrArg₂ hilo (regs .h (by decide)) (regs .l (by decide))
    calc memRead t t.hl = memRead s t.hl := bytes t.hl
      _ = memRead s s.hl := congrArg (memRead s) hl
  | imm n => rfl

/-! ## The statements -/

theorem alu_add_adc (carry : Bool) (a s : Byte) (f : Flags) :
    alu (if carry then .adc else .add) a s f = addByte a s (carry && f.c) := by
  cases carry <;> rfl

theorem alu_sub_sbc_cp {op : AluOp} (h : op = .sub ∨ op = .sbc ∨ op = .cp) (a s : Byte) (f : Flags) :
    alu op a s f =
      (if op = .cp then a else (subByte a s (decide (op = .sbc) && f.c)).1,
        (subByte a s (decide (op = .sbc) && f.c)).2) := by
  rcases h with rfl | rfl | rfl <;> rfl

theorem alu_logic_getLsbD {op : AluOp} (h : op = .and ∨ op = .xor ∨ op = .or) (a s : Byte) (f : Flags) (k : Nat) :
    (alu op a s f).1.getLsbD k =
      if op = .and then a.getLsbD k && s.getLsbD k
      else if op = .xor then a.getLsbD k != s.getLsbD k else a.getLsbD k || s.getLsbD k := by
  rcases h with rfl | rfl | rfl
  · exact BitVec.getLsbD_and
  · exact BitVec.getLsbD_xor
  · exact BitVec.getLsbD_or

theorem alu_logic_flags {op : AluOp} (h : op = .and ∨ op = .xor ∨ op = .or) (a s : Byte) (f : Flags) :
    (alu op a s f).2 = logicFlags (alu op a s f).1 (decide (op = .and)) := by
  rcases h with rfl | rfl | rfl <;> rfl

/-- Settles O15: the sum and the flags of `addByte`, put in the state by `exec_alu`. -/
theorem addAndAdc : Obligations.AddAndAdc := by
  intro carry src s
  obtain ⟨t, next, a, f, keeps⟩ := exec_alu (if carry then .adc else .add) src s
  rw [alu_add_adc] at a f
  refine ⟨(alu_row _ src).1, t, next, ?sum, ?flags, keeps⟩
  case sum =>
    rw [a]
    exact addByte_toNat _ _ _
  case flags =>
    rw [a, f]
    exact addByte_flags _ _ _

/-- Settles O16: the difference and the flags of `subByte`, put in the state by `exec_alu`. -/
theorem subSbcAndCp : Obligations.SubSbcAndCp := by
  intro op src s h
  obtain ⟨t, next, a, f, keeps⟩ := exec_alu op src s
  rw [alu_sub_sbc_cp h] at a f
  refine ⟨(alu_row op src).1, t, _, next, rfl, ?difference, ?flags, keeps⟩
  case difference =>
    rw [a, apply_ite BitVec.toNat, subByte_toNat]
  case flags =>
    rw [f]
    exact subByte_flags _ _ _

/-- Settles O17: the bits of the result and `logicFlags`, put in the state by `exec_alu`. -/
theorem logic : Obligations.Logic := by
  intro op src s h
  obtain ⟨t, next, a, f, keeps⟩ := exec_alu op src s
  rw [alu_logic_flags h, ← a] at f
  refine ⟨(alu_row op src).1, t, next, fun k _ => ?bits, ?flags, keeps⟩
  case bits =>
    rw [a]
    exact alu_logic_getLsbD h _ _ _ k
  case flags =>
    rw [f]
    exact ⟨rfl, rfl, rfl, rfl⟩

/-- Settles O18: `SUB` leaves every operand but A (`State.source_congr`), so that `ADD` undoes it (`addByte_subByte`);
`CP` has its flags by definition. -/
theorem aluLaws : Obligations.AluLaws := by
  intro src s other
  obtain ⟨t, subRuns, tA, tF, tRegs, -, -, -, tFrame⟩ := exec_alu .sub src s
  obtain ⟨u, addRuns, uA, -⟩ := exec_alu .add src t
  obtain ⟨v, cpRuns, vA, vF, -⟩ := exec_alu .cp src s
  have restored : u.cpu.a = s.cpu.a := by
    rw [uA, tA, State.source_congr tRegs tFrame.bytes other]
    exact addByte_subByte _ _
  obtain ⟨-, -, -, borrow⟩ := subByte_flags s.cpu.a (s.source src) false
  refine ⟨t, u, v, subRuns, addRuns, cpRuns, restored, vA, vF.trans tF.symm, ?carry, ?zero⟩
  case carry =>
    rw [vF]
    exact (congrArg (· = true) borrow).to_iff.trans decide_eq_true_iff
  case zero =>
    rw [vF]
    exact subByte_z_iff _ _

/-- Settles O19: both rows put a byte and its flags in the state (`done_setReg_setFlags`). -/
theorem incDecRegister : Obligations.IncDecRegister := by
  intro r s
  obtain ⟨incBytes, incExec⟩ := inc_row r
  obtain ⟨decBytes, decExec⟩ := dec_row r
  rw [incExec, decExec]
  refine ⟨incBytes, decBytes, ?inc, ?dec⟩
  case inc =>
    obtain ⟨t, next, result, f, regs, keeps⟩ :=
      done_setReg_setFlags 1 s r (incByte (s.getReg r) s.cpu.f).1 (incByte (s.getReg r) s.cpu.f).2
    rw [incByte_eq_ofNat] at result
    exact ⟨t, next, congrArg BitVec.toNat result, regs, f ▸ incByte_flags _ _, keeps⟩
  case dec =>
    obtain ⟨t, next, result, f, regs, keeps⟩ :=
      done_setReg_setFlags 1 s r (decByte (s.getReg r) s.cpu.f).1 (decByte (s.getReg r) s.cpu.f).2
    rw [decByte_eq_ofNat] at result
    exact ⟨t, next, congrArg BitVec.toNat result, regs, f ▸ decByte_flags _ _, keeps⟩

/-- Settles O20: both rows offer a byte to the bus and put its flags in the state (`done_memWrite_setFlags`). -/
theorem incDecAtHl : Obligations.IncDecAtHl := by
  intro s
  refine ⟨rfl, rfl, ?inc, ?dec⟩
  case inc =>
    obtain ⟨t, next, stored, f, keeps⟩ := done_memWrite_setFlags 3 s s.hl
      (incByte (memRead s s.hl) s.cpu.f).1 (incByte (memRead s s.hl) s.cpu.f).2
    rw [incByte_eq_ofNat] at stored
    exact ⟨t, next, stored, f ▸ incByte_flags _ _, keeps⟩
  case dec =>
    obtain ⟨t, next, stored, f, keeps⟩ := done_memWrite_setFlags 3 s s.hl
      (decByte (memRead s s.hl) s.cpu.f).1 (decByte (memRead s s.hl) s.cpu.f).2
    rw [decByte_eq_ofNat] at stored
    exact ⟨t, next, stored, f ▸ decByte_flags _ _, keeps⟩

/-- Settles O21: the two corrections as numbers (`daaByte_toNat`) and the flags (`daaByte_flags`). -/
theorem decimalAdjust : Obligations.DecimalAdjust := by
  intro s
  obtain ⟨t, next, a, f, keeps⟩ :=
    done_setReg_setFlags 1 s .a (daaByte s.cpu.a s.cpu.f).1 (daaByte s.cpu.a s.cpu.f).2
  refine ⟨rfl, t, daaFirst s.cpu.a s.cpu.f, next, rfl, ?result, ?flags, keeps⟩
  case result => exact (congrArg BitVec.toNat a).trans (daaByte_toNat _ _)
  case flags =>
    rw [show t.cpu.a = _ from a, f]
    exact daaByte_flags _ _

/-- Settles O22: `CPL` puts A's complement in the state (`done_setReg_setFlags`), `SCF` and `CCF` flags alone
(`done_setFlags`). -/
theorem complementAndCarry : Obligations.ComplementAndCarry := by
  intro s
  refine ⟨rfl, rfl, rfl, ?cpl, ?scf, ?ccf⟩
  case cpl =>
    obtain ⟨t, next, a, f, keeps⟩ := done_setReg_setFlags 1 s .a (~~~s.cpu.a) (cplFlags s.cpu.f)
    exact ⟨t, next, (congrArg BitVec.toNat a).trans BitVec.toNat_not, f ▸ ⟨rfl, rfl, rfl, rfl⟩, keeps⟩
  case scf =>
    obtain ⟨t, next, f, keeps⟩ := done_setFlags 1 s (scfFlags s.cpu.f)
    exact ⟨t, next, f ▸ ⟨rfl, rfl, rfl, rfl⟩, keeps⟩
  case ccf =>
    obtain ⟨t, next, f, keeps⟩ := done_setFlags 1 s (ccfFlags s.cpu.f)
    exact ⟨t, next, f ▸ ⟨rfl, rfl, rfl, rfl⟩, keeps⟩

end Sys2Proof.Machine
end

section
/-! PROOF. 16-bit arithmetic (R490 to R494): results and carries as numbers, then what each form leaves in the state. -/

namespace Sys2Proof.Machine

/-! ## Results and flags of the word operations -/

/-- A carry out of bit 15 is a sum past the word (R16). -/
theorem carryOut_word (x v : Word) (c : Nat) :
    carryOut 16 x.toNat v.toNat c = decide (65536 ≤ x.toNat + v.toNat + c) := by
  rw [carryOut, Nat.mod_eq_of_lt x.isLt, Nat.mod_eq_of_lt v.isLt]
  rfl

theorem addWord_flags (x v : Word) (f : Flags) :
    (addWord x v f).2.are f.z false (decide (4096 ≤ x.toNat % 4096 + v.toNat % 4096))
      (decide (65536 ≤ x.toNat + v.toNat)) :=
  ⟨rfl, rfl, rfl, carryOut_word x v 0⟩

/-- A signed displacement moves a word by its value, modulo 2^16 (R12). -/
theorem add_sext16_toNat (w : Word) (e : Byte) :
    ((w + sext16 e).toNat : Int) = ((w.toNat : Int) + e.toInt) % 65536 := by
  have displacement : ((sext16 e).toNat : Int) = e.toInt % 65536 := by
    rw [sext16, BitVec.signExtend, BitVec.toNat_ofInt]
    exact Int.toNat_of_nonneg (Int.emod_nonneg _ (by decide))
  rw [BitVec.toNat_add]
  omega

/-- The carries are those of the low byte, which is compared unsigned (R493, R494). -/
theorem addSigned_flags (sp : Word) (e : Byte) :
    (addSigned sp e).2.are false false (decide (16 ≤ sp.toNat % 16 + e.toNat % 16))
      (decide (256 ≤ sp.toNat % 256 + e.toNat)) := by
  have low : (lo sp).toNat = sp.toNat % 256 := lowBits_toNat sp 8
  refine ⟨rfl, rfl, ?half, ?carry⟩
  case half =>
    have nibble : (lo sp).toNat % 16 = sp.toNat % 16 := by omega
    exact congrArg (fun k => decide (16 ≤ k + e.toNat % 16)) nibble
  case carry => exact low ▸ carryOut_byte (lo sp) e 0

/-! ## The rows of the opcode map: bytes and effect (R303) -/

theorem incPair_row (dd : Pair) :
    encode (Forms.incPair dd) = [BitVec.ofNat 8 (0x03 + 16 * Forms.pairCode dd)] ∧
      exec (Forms.incPair dd) = incPair dd := by
  cases dd <;> exact ⟨rfl, rfl⟩

theorem decPair_row (dd : Pair) :
    encode (Forms.decPair dd) = [BitVec.ofNat 8 (0x0B + 16 * Forms.pairCode dd)] ∧
      exec (Forms.decPair dd) = decPair dd := by
  cases dd <;> exact ⟨rfl, rfl⟩

theorem addHl_row (dd : Pair) :
    encode (Forms.addHl dd) = [BitVec.ofNat 8 (0x09 + 16 * Forms.pairCode dd)] ∧
      exec (Forms.addHl dd) = addHl dd := by
  cases dd <;> exact ⟨rfl, rfl⟩

/-! ## What the forms leave in the state -/

/-- An instruction that replaces one pair by a function of it, and no flag. -/
theorem done_setPair_getPair (n : Nat) (s : State) (p : Pair) (g : Word → Word) :
    ∃ t, done n (s.setPair p (g (s.getPair p))) = .next t ∧
      (∀ q, t.getPair q = if q = p then g (s.getPair q) else s.getPair q) ∧ t.cpu.a = s.cpu.a ∧ t.cpu.f = s.cpu.f ∧
      t.cpu.pc = s.cpu.pc ∧ t.cpu.cycles = n ∧ NoStore s t := by
  obtain ⟨t, next, cycles, same, frame⟩ := done_next n (s.setPair p (g (s.getPair p)))
  have pairs := fun q => (same.getPair q).trans (s.getPair_setPair p q (g (s.getPair p)))
  obtain ⟨regs, f, -, pc⟩ := same
  refine ⟨t, next, fun q => ?moved, (regs .a).trans (s.setPair_cpu_a p _), f.trans (s.setPair_cpu_f p _),
    pc.trans (s.setPair_cpu_pc p _), cycles, (NoStore.setPair s p _).trans frame⟩
  case moved => exact (pairs q).trans (ite_congr rfl (fun chosen => chosen ▸ rfl) fun _ => rfl)

/-- An instruction whose result goes to HL, and its flags to F. -/
theorem done_setHl_setFlags (n : Nat) (s : State) (w : Word) (g : Flags) :
    ∃ t, done n ((s.setHl w).setFlags g) = .next t ∧ t.hl = w ∧ t.cpu.f = g ∧ t.bc = s.bc ∧ t.de = s.de ∧
      t.cpu.sp = s.cpu.sp ∧ t.cpu.a = s.cpu.a ∧ t.cpu.pc = s.cpu.pc ∧ t.cpu.cycles = n ∧ NoStore s t := by
  obtain ⟨t, next, cycles, same, frame⟩ := done_next n ((s.setHl w).setFlags g)
  obtain ⟨bc, de, hl⟩ := same.pairs
  obtain ⟨regs, f, sp, pc⟩ := same
  exact ⟨t, next, hl.trans (s.hl_setHl w), f, bc, de, sp, regs .a, pc, cycles,
    ((NoStore.setHl s w).trans (.setFlags _ g)).trans frame⟩

/-- An instruction whose result goes to SP, and its flags to F. -/
theorem done_setSp_setFlags (n : Nat) (s : State) (w : Word) (g : Flags) :
    ∃ t, done n ((s.setSp w).setFlags g) = .next t ∧ t.cpu.sp = w ∧ t.cpu.f = g ∧ (∀ x, t.getReg x = s.getReg x) ∧
      t.cpu.pc = s.cpu.pc ∧ t.cpu.cycles = n ∧ NoStore s t := by
  obtain ⟨t, next, cycles, ⟨regs, f, sp, pc⟩, frame⟩ := done_next n ((s.setSp w).setFlags g)
  exact ⟨t, next, sp, f, fun x => (regs x).trans (State.getReg_setFlags _ g x), pc, cycles,
    ((NoStore.setSp s w).trans (.setFlags _ g)).trans frame⟩

/-! ## The statements -/

/-- Settles O23: each row replaces its pair by the pair moved by one (`done_setPair_getPair`). -/
theorem incDecPair : Obligations.IncDecPair := by
  intro dd s
  obtain ⟨incBytes, incExec⟩ := incPair_row dd
  obtain ⟨decBytes, decExec⟩ := decPair_row dd
  rw [incExec, decExec]
  exact ⟨incBytes, decBytes, done_setPair_getPair 2 s dd (· + 1#16), done_setPair_getPair 2 s dd (· - 1#16)⟩

/-- Settles O24: the sum and the flags of `addWord`, put in the state by `done_setHl_setFlags`. -/
theorem addToHl : Obligations.AddToHl := by
  intro dd s
  obtain ⟨bytes, run⟩ := addHl_row dd
  obtain ⟨t, next, hl, f, keeps⟩ :=
    done_setHl_setFlags 2 s (s.hl + s.getPair dd) (addWord s.hl (s.getPair dd) s.cpu.f).2
  rw [run]
  exact ⟨bytes, t, next, (congrArg BitVec.toNat hl).trans (BitVec.toNat_add _ _), f ▸ addWord_flags _ _ _, keeps⟩

/-- Settles O25: both rows have the sum (`add_sext16_toNat`) and the flags of `addSigned`, which go to SP or HL. -/
theorem spPlusDisplacement : Obligations.SpPlusDisplacement := by
  intro e s
  refine ⟨rfl, rfl, ?addSp, ?loadHl⟩
  case addSp =>
    obtain ⟨t, next, sp, f, keeps⟩ :=
      done_setSp_setFlags 4 s (s.cpu.sp + sext16 e) (addSigned s.cpu.sp e).2
    exact ⟨t, next, sp ▸ add_sext16_toNat _ _, f ▸ addSigned_flags _ _, keeps⟩
  case loadHl =>
    obtain ⟨t, next, hl, f, bc, de, sp, keeps⟩ :=
      done_setHl_setFlags 3 s (s.cpu.sp + sext16 e) (addSigned s.cpu.sp e).2
    exact ⟨t, next, hl ▸ add_sext16_toNat _ _, f ▸ addSigned_flags _ _, sp, bc, de, keeps⟩

end Sys2Proof.Machine
end

section
/-! PROOF. Rotates, shifts and single-bit operations (R510 to R527): results as numbers and bits, then what each form
leaves in the state. The theorems that settle the statements are in `Bits`: in `Machine` `testBit` is an operation. The
statements write out `ShiftOp.result`, `ShiftOp.out` and `Target.Written` as matches of their own, which agree with these
case by case. -/

namespace Sys2Proof.Machine

/-! ## Results and flags of the byte operations -/

/-- Bit 7 of a byte as a number. -/
theorem bit_getLsbD_seven (v : Byte) : bit (v.getLsbD 7) = v.toNat / 128 := by
  have lt := v.isLt
  rw [getLsbD_seven]
  simp only [bit, decide_eq_true_eq]
  split <;> omega

theorem getLsbD_zero (v : Byte) : v.getLsbD 0 = decide (v.toNat % 2 = 1) := Nat.testBit_zero v.toNat

theorem bit_getLsbD_zero (v : Byte) : bit (v.getLsbD 0) = v.toNat % 2 := by
  rw [getLsbD_zero]
  simp only [bit, decide_eq_true_eq]
  split <;> omega

/-- Joining a byte whose bits are from `i` on with one whose bits are below `i` adds them. -/
theorem toNat_or_of_lt {x y : Byte} {k : Nat} (i : Nat) (high : x.toNat = 2 ^ i * k) (low : y.toNat < 2 ^ i) :
    (x ||| y).toNat = x.toNat + y.toNat := by
  rw [BitVec.toNat_or, high, Nat.two_pow_add_eq_or_of_lt low]

theorem shiftLeft_one_toNat (v : Byte) : (v <<< 1).toNat = v.toNat * 2 % 256 := by
  rw [BitVec.toNat_shiftLeft, Nat.shiftLeft_eq]

theorem shiftRight_one_toNat (v : Byte) : (v >>> 1).toNat = v.toNat / 2 := by
  rw [BitVec.toNat_ushiftRight, Nat.shiftRight_eq_div_pow]

/-- A shift to the left with `b` coming in at bit 0. -/
theorem shiftLeftIn_toNat (v : Byte) (b : Bool) :
    (if b then v <<< 1 ||| 0x01#8 else v <<< 1).toNat = v.toNat * 2 % 256 + bit b := by
  have left := shiftLeft_one_toNat v
  cases b with
  | false => exact left
  | true =>
    have even : (v <<< 1).toNat = 2 ^ 1 * (v.toNat % 128) := by omega
    exact (toNat_or_of_lt 1 even (by decide)).trans (congrArg (· + 1) left)

/-- A shift to the right with `b` coming in at bit 7. -/
theorem shiftRightIn_toNat (v : Byte) (b : Bool) :
    (if b then v >>> 1 ||| 0x80#8 else v >>> 1).toNat = v.toNat / 2 + bit b * 128 := by
  have right := shiftRight_one_toNat v
  cases b with
  | false => exact right
  | true =>
    have low : (v >>> 1).toNat < 2 ^ 7 := by omega
    show (v >>> 1 ||| 0x80#8).toNat = v.toNat / 2 + 128
    rw [BitVec.or_comm, toNat_or_of_lt 7 (k := 1) rfl low, right]
    exact Nat.add_comm _ _

/-- A shift to the right that keeps bit 7 (R520). -/
theorem shiftRightKeep_toNat (v : Byte) :
    (v >>> 1 ||| v &&& 0x80#8).toNat = v.toNat / 2 + v.toNat / 128 * 128 := by
  have right := shiftRight_one_toNat v
  have low : (v >>> 1).toNat < 2 ^ 7 := by omega
  have top : (v &&& 0x80#8).toNat = 2 ^ 7 * (v.toNat / 128) := by
    have lt := v.isLt
    have mask : (0x80#8).toNat = 2 ^ 7 := rfl
    rw [BitVec.toNat_and, mask, Nat.and_two_pow, Nat.toNat_testBit]
    omega
  rw [BitVec.or_comm, toNat_or_of_lt 7 top low, top, right]
  omega

theorem swap_toNat (v : Byte) : (v <<< 4 ||| v >>> 4).toNat = v.toNat % 16 * 16 + v.toNat / 16 := by
  have low : (v >>> 4).toNat = v.toNat / 16 := by rw [BitVec.toNat_ushiftRight, Nat.shiftRight_eq_div_pow]
  have high : (v <<< 4).toNat = 2 ^ 4 * (v.toNat % 16) := by
    rw [BitVec.toNat_shiftLeft, Nat.shiftLeft_eq]
    omega
  rw [toNat_or_of_lt 4 high (by omega), high, low]
  omega

/-- What a rotate or shift makes of the number `v`, `c` being the old carry (R515 to R522). -/
def ShiftOp.result (op : ShiftOp) (v : Nat) (c : Bool) : Nat :=
  match op with
  | .rlc => v * 2 % 256 + v / 128
  | .rrc => v / 2 + v % 2 * 128
  | .rl => v * 2 % 256 + bit c
  | .rr => v / 2 + bit c * 128
  | .sla => v * 2 % 256
  | .sra => v / 2 + v / 128 * 128
  | .swap => v % 16 * 16 + v / 16
  | .srl => v / 2

/-- The bit a rotate or shift moves out of the number `v` (R515 to R522). -/
def ShiftOp.out (op : ShiftOp) (v : Nat) : Bool :=
  match op with
  | .rlc | .rl | .sla => decide (128 ≤ v)
  | .rrc | .rr | .sra | .srl => decide (v % 2 = 1)
  | .swap => false

theorem shiftByte_toNat (op : ShiftOp) (v : Byte) (c : Bool) : (shiftByte op v c).1.toNat = op.result v.toNat c := by
  cases op with
  | rlc => exact (shiftLeftIn_toNat v _).trans (by rw [bit_getLsbD_seven]; rfl)
  | rrc => exact (shiftRightIn_toNat v _).trans (by rw [bit_getLsbD_zero]; rfl)
  | rl => exact shiftLeftIn_toNat v c
  | rr => exact shiftRightIn_toNat v c
  | sla => exact shiftLeft_one_toNat v
  | sra => exact shiftRightKeep_toNat v
  | swap => exact swap_toNat v
  | srl => exact shiftRight_one_toNat v

theorem shiftByte_eq_ofNat (op : ShiftOp) (v : Byte) (c : Bool) :
    (shiftByte op v c).1 = BitVec.ofNat 8 (op.result v.toNat c) := by
  rw [← shiftByte_toNat, BitVec.ofNat_toNat, BitVec.setWidth_eq]

theorem shiftByte_out (op : ShiftOp) (v : Byte) (c : Bool) : (shiftByte op v c).2 = op.out v.toNat := by
  cases op with
  | rlc | rl | sla => exact getLsbD_seven v
  | rrc | rr | sra | srl => exact getLsbD_zero v
  | swap => rfl

/-- The complement of bit `b`, as `BIT` answers it in Z (R525). -/
theorem not_getLsbD (v : Byte) (b : Nat) : (!v.getLsbD b) = decide (v.toNat / 2 ^ b % 2 = 0) := by
  rw [BitVec.getLsbD, Nat.testBit_eq_decide_div_mod_eq, ← decide_not]
  exact decide_eq_decide.mpr Nat.mod_two_ne_one

/-- The mask of `RES` and `SET` has bit `b` alone (R526, R527). -/
theorem bitMask_getLsbD (b : Nat) {k : Nat} (h : k < 8) : (1#8 <<< b).getLsbD k = decide (k = b) := by
  have mask : (1#8 <<< b).getLsbD k = (decide (b < 8) && decide (b = k)) := BitVec.getLsbD_twoPow b k
  rw [mask, ← Bool.decide_and]
  exact decide_eq_decide.mpr (by omega)

theorem resetBit_getLsbD (b : Nat) (v : Byte) {k : Nat} (h : k < 8) :
    (resetBit b v).getLsbD k = if k = b then false else v.getLsbD k := by
  rw [resetBit, BitVec.getLsbD_and, BitVec.getLsbD_not, bitMask_getLsbD b h]
  by_cases hit : k = b <;> simp [hit, h]

theorem setBit_getLsbD (b : Nat) (v : Byte) {k : Nat} (h : k < 8) :
    (setBit b v).getLsbD k = if k = b then true else v.getLsbD k := by
  rw [setBit, BitVec.getLsbD_or, bitMask_getLsbD b h]
  by_cases hit : k = b <;> simp [hit]

/-! ## The rows of the opcode map: bytes and effect (R302, R310) -/

theorem shift_row (op : ShiftOp) (x : Target) :
    encode (Forms.shift op x) = [0xCB#8, BitVec.ofNat 8 (8 * Forms.shiftCode op + Forms.targetCode x)] ∧
      exec (Forms.shift op x) = shiftTarget op x := by
  cases x with
  | reg r => cases op <;> cases r <;> exact ⟨rfl, rfl⟩
  | atHl => cases op <;> exact ⟨rfl, rfl⟩

theorem targetOf_targetCode (x : Target) : Forms.targetCode x < 8 ∧ targetOf (Forms.targetCode x) = x := by
  cases x with
  | reg r => cases r <;> exact ⟨by decide, rfl⟩
  | atHl => exact ⟨by decide, rfl⟩

/-- A value for every bit number and operand, laid out as `Forms.bitRows` is. -/
def bitTable {β : Type} (g : Nat → Target → β) : List (List β) :=
  (List.range 8).map fun b => (List.range 8).map fun r => g b (targetOf r)

/-- A fact about every cell of a table of bit operations, from the table of the facts. -/
theorem cell_of_table {β : Type} {f : Instr → β} {g : Nat → Target → β} {rows : List (List Instr)}
    (table : rows.map (List.map f) = bitTable g) (b : Fin 8) (x : Target) : f (Forms.cell rows b x) = g b x := by
  obtain ⟨column, operand⟩ := targetOf_targetCode x
  have entry : ((bitTable g).getD b []).getD (Forms.targetCode x) (f .nop) = g b x := by
    simp [bitTable, column, operand]
  rw [← entry, ← table, Forms.cell, ← List.map_nil (f := f), List.getD_map, List.getD_map]

theorem bitRows_effect :
    Forms.bitRows.map (List.map fun i => (encode i, exec i)) =
      bitTable fun b x => ([0xCB#8, BitVec.ofNat 8 (0x40 + 8 * b + Forms.targetCode x)], testBit b x) := rfl

theorem resRows_effect :
    Forms.resRows.map (List.map fun i => (encode i, exec i)) =
      bitTable fun b x => ([0xCB#8, BitVec.ofNat 8 (0x80 + 8 * b + Forms.targetCode x)], clearBit b x) := rfl

theorem setRows_effect :
    Forms.setRows.map (List.map fun i => (encode i, exec i)) =
      bitTable fun b x => ([0xCB#8, BitVec.ofNat 8 (0xC0 + 8 * b + Forms.targetCode x)], raiseBit b x) := rfl

theorem bitAt_row (b : Fin 8) (x : Target) :
    encode (Forms.bitAt b x) = [0xCB#8, BitVec.ofNat 8 (0x40 + 8 * b.val + Forms.targetCode x)] ∧
      exec (Forms.bitAt b x) = testBit b x :=
  Prod.mk.inj (cell_of_table bitRows_effect b x)

theorem resAt_row (b : Fin 8) (x : Target) :
    encode (Forms.resAt b x) = [0xCB#8, BitVec.ofNat 8 (0x80 + 8 * b.val + Forms.targetCode x)] ∧
      exec (Forms.resAt b x) = clearBit b x :=
  Prod.mk.inj (cell_of_table resRows_effect b x)

theorem setAt_row (b : Fin 8) (x : Target) :
    encode (Forms.setAt b x) = [0xCB#8, BitVec.ofNat 8 (0xC0 + 8 * b.val + Forms.targetCode x)] ∧
      exec (Forms.setAt b x) = raiseBit b x :=
  Prod.mk.inj (cell_of_table setRows_effect b x)

/-! ## What the forms leave in the state -/

/-- "Store w" of R514 with its frame and cycles: in the register alone, or offered to the bus at HL. -/
def Target.Written (x : Target) (s t : State) (w : Byte) : Prop :=
  match x with
  | .reg r => (∀ y, t.getReg y = if y = r then w else s.getReg y) ∧ t.cpu.cycles = 2 ∧ NoStore s t
  | .atHl => (∀ y, t.getReg y = s.getReg y) ∧ t.cpu.cycles = 4 ∧ Stored s t s.hl w

/-- An instruction whose result goes to the operand it came from, and its flags to F. -/
theorem done_storeTarget_setFlags (s : State) (x : Target) (w : Byte) (g : Flags) :
    ∃ t, done x.cycles ((s.storeTarget x w).setFlags g) = .next t ∧ x.Written s t w ∧ t.cpu.f = g ∧
      t.cpu.sp = s.cpu.sp ∧ t.cpu.pc = s.cpu.pc := by
  cases x with
  | reg r =>
    obtain ⟨t, next, result, f, others, sp, pc, cycles, frame⟩ := done_setReg_setFlags 2 s r w g
    refine ⟨t, next, ⟨fun y => ?regs, cycles, frame⟩, f, sp, pc⟩
    split
    next same => exact same ▸ result
    next other => exact others y other
  | atHl =>
    obtain ⟨t, next, stored, f, regs, sp, pc, cycles⟩ := done_memWrite_setFlags 4 s s.hl w g
    exact ⟨t, next, ⟨regs, cycles, stored⟩, f, sp, pc⟩

theorem State.storeTarget_cpu_f (s : State) (x : Target) (w : Byte) : (s.storeTarget x w).cpu.f = s.cpu.f := by
  cases x with
  | reg r => exact s.setReg_cpu_f r w
  | atHl =>
    obtain ⟨-, f, -⟩ := memWrite_sameRegisters s s.hl w
    exact f

/-- An instruction whose result goes to the operand it came from, and that leaves F. -/
theorem done_storeTarget (s : State) (x : Target) (w : Byte) :
    ∃ t, done x.cycles (s.storeTarget x w) = .next t ∧ x.Written s t w ∧ t.cpu.f = s.cpu.f ∧
      t.cpu.sp = s.cpu.sp ∧ t.cpu.pc = s.cpu.pc := by
  obtain ⟨t, next, written, f, keeps⟩ := done_storeTarget_setFlags s x w (s.storeTarget x w).cpu.f
  exact ⟨t, next, written, f.trans (s.storeTarget_cpu_f x w), keeps⟩

/-- A rotate of the accumulator in numbers (R510 to R513). -/
theorem rotateA_next (op : ShiftOp) (s : State) :
    ∃ t, rotateA op s = .next t ∧ t.cpu.a.toNat = op.result s.cpu.a.toNat s.cpu.f.c ∧
      t.cpu.f.are false false false (op.out s.cpu.a.toNat) ∧ (∀ x, x ≠ .a → t.getReg x = s.getReg x) ∧
      t.cpu.sp = s.cpu.sp ∧ t.cpu.pc = s.cpu.pc ∧ t.cpu.cycles = 1 ∧ NoStore s t := by
  obtain ⟨t, next, a, f, keeps⟩ := done_setReg_setFlags 1 s .a (shiftByte op s.cpu.a s.cpu.f.c).1
    (rotateAFlags (shiftByte op s.cpu.a s.cpu.f.c).2)
  rw [shiftByte_out] at f
  exact ⟨t, next, (congrArg BitVec.toNat a).trans (shiftByte_toNat op _ _), f ▸ ⟨rfl, rfl, rfl, rfl⟩, keeps⟩

/-! ## The statements -/

/-- Settles O26: each row is a rotate of the accumulator (`rotateA_next`). -/
theorem Bits.rotateAccumulator : Obligations.RotateAccumulator := by
  intro i s rotates
  have top : decide (128 ≤ s.cpu.a.toNat) = decide (s.cpu.a.toNat / 128 = 1) :=
    decide_eq_decide.mpr (by omega)
  rcases rotates with rfl | rfl | rfl | rfl
  · exact ⟨rfl, top ▸ rotateA_next .rlc s⟩
  · exact ⟨rfl, rotateA_next .rrc s⟩
  · exact ⟨rfl, top ▸ rotateA_next .rl s⟩
  · exact ⟨rfl, rotateA_next .rr s⟩

/-- Settles O27: the result and the bit that leaves it (`shiftByte_eq_ofNat`, `shiftByte_out`), put in the state by
`done_storeTarget_setFlags`. -/
theorem Bits.rotateAndShift : Obligations.RotateAndShift := by
  intro op x s
  obtain ⟨bytes, run⟩ := shift_row op x
  obtain ⟨t, next, written, f, keeps⟩ := done_storeTarget_setFlags s x (shiftByte op (s.target x) s.cpu.f.c).1
    (shiftFlags (shiftByte op (s.target x) s.cpu.f.c).1 (shiftByte op (s.target x) s.cpu.f.c).2)
  rw [run]
  refine ⟨bytes, t, _, (shiftByte op (s.target x) s.cpu.f.c).1, next, rfl, ?result, ?flags, ?stored, keeps⟩
  case result => cases op <;> exact shiftByte_eq_ofNat _ _ _
  case flags =>
    rw [f, shiftByte_out]
    exact ⟨rfl, rfl, rfl, by cases op <;> rfl⟩
  case stored => cases x <;> exact written

/-- Settles O28: Z is the complement of the bit (`not_getLsbD`), and only F changes (`done_setFlags`). -/
theorem Bits.testBit : Obligations.TestBit := by
  intro b x s
  obtain ⟨bytes, run⟩ := bitAt_row b x
  obtain ⟨t, next, f, regs, sp, pc, cycles, frame⟩ := done_setFlags x.testCycles s (bitFlags b (s.target x) s.cpu.f)
  rw [run]
  exact ⟨bytes, t, next, f ▸ ⟨not_getLsbD _ b, rfl, rfl, rfl⟩, regs, sp, pc, cycles, frame⟩

/-- Settles O29: both operations store the operand with one bit replaced (`done_storeTarget`). -/
theorem Bits.resetAndSetBit : Obligations.ResetAndSetBit := by
  intro value b x s
  cases value with
  | false =>
    obtain ⟨bytes, run⟩ := resAt_row b x
    obtain ⟨t, next, written, keeps⟩ := done_storeTarget s x (resetBit b (s.target x))
    refine ⟨bytes, t, _, (congrFun run s).trans next, fun k => resetBit_getLsbD b _, ?_, keeps⟩
    cases x <;> exact written
  | true =>
    obtain ⟨bytes, run⟩ := setAt_row b x
    obtain ⟨t, next, written, keeps⟩ := done_storeTarget s x (setBit b (s.target x))
    refine ⟨bytes, t, _, (congrFun run s).trans next, fun k => setBit_getLsbD b _, ?_, keeps⟩
    cases x <;> exact written

end Sys2Proof.Machine
end

section
/-! PROOF. Jumps, calls and returns (R550 to R561): each row's bytes and effect, then pc, stack and frame of the taken and
the untaken form. The theorems that settle the statements are in `Control`: in `Machine` some of their names are
operations. -/

namespace Sys2Proof.Machine

/-! ## The condition and pc -/

/-- The condition an instruction tests is that of R550. -/
theorem State.cond_iff (s : State) (cc : Cond) : s.cond cc = true ↔ conditionHolds cc s.cpu.f := by
  cases cc with
  | nz | nc => exact Iff.of_eq (Bool.not_eq_true' _)
  | z | c => exact Iff.rfl

/-- A conditional instruction ends as its taken form where the condition holds and as its untaken form elsewhere. -/
theorem State.next_of_cond (s : State) (cc : Cond) {x y : Result} {P Q : State → Prop}
    (taken : ∃ t, x = .next t ∧ P t) (untaken : ∃ t, y = .next t ∧ Q t) :
    ∃ t, (if s.cond cc then x else y) = .next t ∧ (conditionHolds cc s.cpu.f → P t) ∧
      (¬conditionHolds cc s.cpu.f → Q t) := by
  rw [← s.cond_iff cc]
  by_cases h : s.cond cc = true
  · obtain ⟨t, next, p⟩ := taken
    exact ⟨t, (if_pos h).trans next, fun _ => p, fun no => absurd h no⟩
  · obtain ⟨t, next, q⟩ := untaken
    exact ⟨t, (if_neg h).trans next, fun yes => absurd yes h, fun _ => q⟩

theorem NoStore.setPc (s : State) (w : Word) : NoStore s (s.setPc w) :=
  .of_outside ⟨rfl, rfl, rfl, rfl, rfl, rfl, rfl⟩ rfl rfl

/-! ## The rows of the opcode map: bytes and effect (R305, R307) -/

theorem jpIf_row (a : Word) (cc : Cond) :
    encode (Forms.jpIf a cc) = Forms.withWord (0xC2 + 8 * Forms.condCode cc) a ∧
      exec (Forms.jpIf a cc) = jumpIf cc a := by
  cases cc <;> exact ⟨rfl, rfl⟩

theorem jrIf_row (e : Byte) (cc : Cond) :
    encode (Forms.jrIf e cc) = [BitVec.ofNat 8 (0x20 + 8 * Forms.condCode cc), e] ∧
      exec (Forms.jrIf e cc) = jumpRelIf cc e := by
  cases cc <;> exact ⟨rfl, rfl⟩

theorem callIf_row (a : Word) (cc : Cond) :
    encode (Forms.callIf a cc) = Forms.withWord (0xC4 + 8 * Forms.condCode cc) a ∧
      exec (Forms.callIf a cc) = callIf cc a := by
  cases cc <;> exact ⟨rfl, rfl⟩

theorem retIf_row (cc : Cond) :
    encode (Forms.retIf cc) = [BitVec.ofNat 8 (0xC0 + 8 * Forms.condCode cc)] ∧
      exec (Forms.retIf cc) = retIf cc := by
  cases cc <;> exact ⟨rfl, rfl⟩

theorem rst_row (k : Fin 8) :
    encode (Forms.rst k) = [BitVec.ofNat 8 (0xC7 + 8 * k.val)] ∧
      exec (Forms.rst k) = restart (BitVec.ofNat 16 (8 * k.val)) := by
  fin_cases k <;> exact ⟨rfl, rfl⟩

/-! ## Jumps -/

/-- An instruction that changes pc alone. -/
theorem done_setPc (n : Nat) (s : State) (w : Word) :
    ∃ t, done n (s.setPc w) = .next t ∧ (t.cpu.pc = w ∧ t.cpu.cycles = n) ∧ (∀ x, t.getReg x = s.getReg x) ∧
      t.cpu.f = s.cpu.f ∧ t.cpu.sp = s.cpu.sp ∧ NoStore s t := by
  obtain ⟨t, next, cycles, ⟨regs, f, sp, pc⟩, frame⟩ := done_next n (s.setPc w)
  exact ⟨t, next, ⟨pc, cycles⟩, fun x => (regs x).trans (s.getReg_setPc w x), f, sp, (NoStore.setPc s w).trans frame⟩

/-- A conditional jump with its target: untaken it leaves pc where it is (R552, R555). -/
theorem done_setPc_of_cond (taken untaken : Nat) (cc : Cond) (s : State) (w : Word) :
    ∃ t, (if s.cond cc then done taken (s.setPc w) else done untaken s) = .next t ∧
      (conditionHolds cc s.cpu.f → t.cpu.pc = w ∧ t.cpu.cycles = taken) ∧
      (¬conditionHolds cc s.cpu.f → t.cpu.pc = s.cpu.pc ∧ t.cpu.cycles = untaken) ∧
      (∀ x, t.getReg x = s.getReg x) ∧ t.cpu.f = s.cpu.f ∧ t.cpu.sp = s.cpu.sp ∧ NoStore s t := by
  obtain ⟨t, next, jumps, stays⟩ := s.next_of_cond cc (done_setPc taken s w) (done_setPc untaken s s.cpu.pc)
  refine ⟨t, next, fun h => (jumps h).1, fun h => (stays h).1, ?keeps⟩
  by_cases h : conditionHolds cc s.cpu.f
  · exact (jumps h).2
  · exact (stays h).2

/-- Settles O30: each row changes pc alone (`done_setPc`), the conditional ones by R550 (`done_setPc_of_cond`). -/
theorem Control.jump : Obligations.Jump := by
  intro cc a s
  obtain ⟨bytes, run⟩ := jpIf_row a cc
  obtain ⟨t, next, ⟨pc, cycles⟩, keeps⟩ := done_setPc 4 s a
  obtain ⟨u, nextHl, ⟨pcHl, cyclesHl⟩, keepsHl⟩ := done_setPc 1 s s.hl
  rw [run]
  exact ⟨rfl, rfl, bytes, ⟨t, next, pc, cycles, keeps⟩, ⟨u, nextHl, pcHl, cyclesHl, keepsHl⟩,
    done_setPc_of_cond 4 3 cc s a⟩

/-- Settles O31: the target is a signed displacement from pc (`add_sext16_toNat`). -/
theorem Control.relativeJump : Obligations.RelativeJump := by
  intro cc e s
  have target {t : State} (pc : t.cpu.pc = s.cpu.pc + sext16 e) :
      (t.cpu.pc.toNat : Int) = ((s.cpu.pc.toNat : Int) + e.toInt) % 65536 :=
    pc ▸ add_sext16_toNat s.cpu.pc e
  obtain ⟨bytes, run⟩ := jrIf_row e cc
  obtain ⟨t, next, ⟨pc, cycles⟩, keeps⟩ := done_setPc 3 s (s.cpu.pc + sext16 e)
  obtain ⟨u, nextIf, taken, keepsIf⟩ := done_setPc_of_cond 3 2 cc s (s.cpu.pc + sext16 e)
  rw [run]
  exact ⟨rfl, bytes, ⟨t, next, target pc, cycles, keeps⟩, u, nextIf, fun h => (taken h).imp_left target, keepsIf⟩

/-! ## Calls -/

/-- A call of `a`: the push of pc is its two bus writes, which leave the registers, and SP moved (R556, R561). -/
theorem done_push16_setPc (n : Nat) (s : State) (a : Word) :
    ∃ t, done n ((push16 s s.cpu.pc).setPc a) = .next t ∧ pushedPc s t a ∧ t.cpu.cycles = n := by
  obtain ⟨regs', f', -, -⟩ :=
    memWrite_two_sameRegisters s (s.cpu.sp - 1#16) (s.cpu.sp - 2#16) (hi s.cpu.pc) (lo s.cpu.pc)
  obtain ⟨t, next, ⟨pc, cycles⟩, regs, f, sp, frame⟩ := done_setPc n (push16 s s.cpu.pc) a
  rw [push16_eq_setSp] at regs f sp frame
  exact ⟨t, next, ⟨((NoStore.setSp _ _).trans frame).storedTwo, sp, pc, fun x => (regs x).trans (regs' x), f.trans f'⟩,
    cycles⟩

/-- An untaken call or return (R557, R559). -/
theorem done_untaken (n : Nat) (s : State) :
    ∃ t, done n s = .next t ∧ SameRegisters s t ∧ t.cpu.cycles = n ∧ NoStore s t := by
  obtain ⟨t, next, cycles, same, frame⟩ := done_next n s
  exact ⟨t, next, same, cycles, frame⟩

/-- Settles O32: each taken row pushes pc and goes to its target (`done_push16_setPc`). -/
theorem Control.call : Obligations.Call := by
  intro cc a k s
  obtain ⟨bytes, run⟩ := callIf_row a cc
  obtain ⟨rstBytes, rstRun⟩ := rst_row k
  rw [run, rstRun]
  exact ⟨rfl, rstBytes, bytes, done_push16_setPc 6 s a, done_push16_setPc 4 s _,
    s.next_of_cond cc (done_push16_setPc 6 s a) (done_untaken 3 s)⟩

/-! ## Returns -/

/-- The state a return of `n` M-cycles leads to, with the `ime` and the pending `EI` it leaves (R558 to R560). -/
def State.returned (s : State) (ime : Bool) (delay n : Nat) : State :=
  s.withCpu
    { s.cpu with
      pc := hilo (memRead s (s.cpu.sp + 1#16)) (memRead s s.cpu.sp)
      sp := s.cpu.sp + 2#16
      ime := ime
      imeDelay := delay
      cycles := n }

theorem poppedPc_returned (s : State) (ime : Bool) (delay n : Nat) : poppedPc s (s.returned ime delay n) :=
  ⟨rfl, rfl, fun _ => rfl, rfl, rfl, memRead_congr rfl, rfl, rfl, rfl, rfl, rfl, rfl⟩

/-- `RET` and the taken `RET cc` (R558, R559). -/
theorem done_pop16_setPc (n : Nat) (s : State) :
    ∃ t, done n ((pop16 s).2.setPc (pop16 s).1) = .next t ∧ poppedPc s t ∧ t.cpu.ime = s.cpu.ime ∧
      t.cpu.imeDelay = s.cpu.imeDelay ∧ t.cpu.cycles = n := by
  rw [pop16_eq]
  exact ⟨s.returned s.cpu.ime s.cpu.imeDelay n, rfl, poppedPc_returned .., rfl, rfl, rfl⟩

/-- `RETI` (R560). -/
theorem retInterrupt_next (s : State) :
    ∃ t, retInterrupt s = .next t ∧ poppedPc s t ∧ t.cpu.ime = true ∧ t.cpu.imeDelay = 0 ∧ t.cpu.cycles = 4 := by
  rw [retInterrupt, returnFromInterrupt_eq]
  exact ⟨s.returned true 0 4, rfl, poppedPc_returned .., rfl, rfl, rfl⟩

/-- Settles O33: each taken row pops pc (`poppedPc_returned`). -/
theorem Control.return : Obligations.Return := by
  intro cc s
  obtain ⟨bytes, run⟩ := retIf_row cc
  rw [run]
  exact ⟨rfl, rfl, bytes, done_pop16_setPc 4 s, retInterrupt_next s,
    s.next_of_cond cc (done_pop16_setPc 5 s) (done_untaken 2 s)⟩

end Sys2Proof.Machine
end

section
/-! PROOF. Processor control (R580 to R586): what `NOP`, `EI`, `DI`, `HALT` and `STOP` leave in the state, the fetch
with the halt bug armed, and when `EI` takes effect. -/

namespace Sys2Proof.Machine

/-! ## The state after `NOP`, `EI`, `DI`, `HALT` and `STOP` -/

/-- Settles O34: `EI` has two branches, `NOP` and `DI` one each. -/
theorem nopEiDi : Obligations.NopEiDi := by
  intro s
  refine ⟨rfl, rfl, rfl, ⟨_, rfl, rfl⟩, ?ei, ⟨_, rfl, rfl⟩⟩
  case ei =>
    by_cases due : s.cpu.ime = false ∧ s.cpu.imeDelay = 0
    · exact ⟨_, if_pos due, by rw [if_pos due]; rfl⟩
    · exact ⟨_, if_neg due, by rw [if_neg due]; rfl⟩

/-- Settles O35: the two cases of the statement are the two branches of `HALT`, a request being pending or not
(`State.pending_ne_zero_iff`). -/
theorem halt : Obligations.Halt := by
  intro s
  refine ⟨rfl, ?_⟩
  rw [← s.pending_ne_zero_iff, ← s.pending_eq_zero_iff]
  by_cases bug : s.cpu.ime = false ∧ s.pending ≠ 0#5
  · refine ⟨_, if_pos bug, fun _ _ => rfl, fun halts => absurd bug ?_⟩
    simpa [or_iff_not_imp_left] using halts
  · exact ⟨_, if_neg bug, fun off requested => absurd ⟨off, requested⟩ bug, fun _ => rfl⟩

/-- With the divider at 0 the selected divider bit is 0 (R830). -/
theorem Timer.input_div_zero (t : Timer) : Timer.input { t with div := 0#16 } = false := by
  simp [Timer.input]

/-- A reset of the divider counts TIMA exactly when the timer's input was 1, with the overflow of R831 (R832). -/
theorem Timer.divReset_eq (t : Timer) :
    t.divReset =
      ({ t with
          div := 0#16
          tima := if t.input then (if t.tima = 0xFF#8 then t.tma else t.tima + 1#8) else t.tima },
        t.input && decide (t.tima = 0xFF#8)) := by
  rw [Timer.divReset, Timer.afterEdge, Timer.input_div_zero]
  cases t.input with
  | false => rfl
  | true =>
    by_cases full : t.tima = 0xFF#8 <;> simp [Timer.inc, full]

/-- Settles O36: the timer is as `Timer.divReset_eq` says, and its request goes to IF. -/
theorem stop : Obligations.Stop := by
  intro x s
  refine ⟨rfl, _, rfl, ?_⟩
  rw [divReset, Timer.divReset_eq]
  by_cases overflow : s.timer.input = true ∧ s.timer.tima = 0xFF#8
  · rw [if_pos overflow]
    simp [State.putTimer, overflow, irqIf, irqTimer]
  · rw [if_neg overflow]
    simp [State.putTimer, irqIf, overflow]

/-! ## Fetching -/

/-- A processor that fetches is awake, no stall, halt, stop or dispatch being in the way, so its step runs the fetched
instruction (R800). -/
theorem cpuStep_of_fetches {s : State} (fetches : s.fetches) : cpuStep s = executeOne s := by
  obtain ⟨-, stall, halted, stopped, quiet⟩ := fetches
  have awake : s.wake = s :=
    congrArg₂ (fun x y => { s with cpu := { s.cpu with stopped := x, halted := y } }) stopped.symm halted.symm
  have masked : ¬(s.cpu.ime && s.pending != 0#5) = true := by
    simpa [or_iff_not_imp_left] using quiet
  have runs : ¬((s.cpu.stopped || s.cpu.halted) && s.pending == 0#5) = true := by simp [stopped, halted]
  rw [cpuStep, if_neg (by omega), if_neg runs, if_neg masked, awake]

/-- Such a step always answers the state that `exec` answers, after the countdown of `EI`. -/
theorem cpuStep_next_of_fetches {s : State} (fetches : s.fetches) :
    ∃ t, exec s.fetched s.afterFetch = .next t ∧ cpuStep s = .next t.afterInstr := by
  obtain ⟨t, next, -⟩ := exec_does s.fetched s.afterFetch
  exact ⟨t, next, by rw [cpuStep_of_fetches fetches, executeOne, next]⟩

/-- The fetched instruction's encoding is the bytes it was fetched from. -/
theorem State.encode_fetched (s : State) :
    encode s.fetched =
      [s.opcode, memRead s s.operandPc, memRead s (s.operandPc + 1#16)].take (instrLength s.opcode) := by
  have bytes := encode_decode3 s.opcode (hilo (memRead s (s.operandPc + 1#16)) (memRead s s.operandPc))
  rwa [lo_hilo, hi_hilo] at bytes

theorem instrLength_pos (op : Byte) : 0 < instrLength op := by
  unfold instrLength
  cases formatOf op <;> decide

theorem State.length_encode_fetched (s : State) : (encode s.fetched).length = instrLength s.opcode := by
  rw [s.encode_fetched, List.length_take]
  exact Nat.min_eq_left (instrLength_le s.opcode)

/-- The first byte of the fetched instruction is the opcode. -/
theorem State.head_encode_fetched (s : State) : (encode s.fetched).head? = some s.opcode := by
  rw [s.encode_fetched, List.head?_take, if_neg (instrLength_pos s.opcode).ne']
  rfl

/-- Settles O41: while the bug is armed operands are fetched from pc itself, so pc moves one byte less than the
instruction is long. -/
theorem haltBug : Obligations.HaltBug := by
  intro s fetches armed
  have operands : s.operandPc = s.cpu.pc := if_pos armed
  refine ⟨s.fetched, rfl, ?twice, ?short, rfl, cpuStep_next_of_fetches fetches⟩
  case twice => rw [State.fetched, operands]; rfl
  case short =>
    have pos := instrLength_pos s.opcode
    have le := instrLength_le s.opcode
    show (s.operandPc + BitVec.ofNat 16 (instrLength s.opcode - 1)).toNat = _
    rw [operands, s.length_encode_fetched, BitVec.toNat_add, BitVec.toNat_ofNat]
    omega

/-! ## When `EI` takes effect -/

/-- Ending an instruction keeps a pending `EI` that its effect has kept. -/
theorem done_imeDelay {s t : State} (n : Nat) (delay : t.cpu.imeDelay = s.cpu.imeDelay) :
    ∃ u, done n t = .next u ∧ u.cpu.imeDelay = s.cpu.imeDelay :=
  ⟨_, rfl, delay⟩

/-- Registers and bus writes keep a pending `EI` (`Does.steadyControl`). -/
theorem done_imeDelay_of_does {s t : State} (n : Nat) (d : Does 0 s t) :
    ∃ u, done n t = .next u ∧ u.cpu.imeDelay = s.cpu.imeDelay :=
  done_imeDelay n (d.steadyControl rfl).delay

/-- Of a conditional instruction both forms have to be looked at. -/
theorem ite_imeDelay {c : Prop} [Decidable c] {s : State} {x y : Result}
    (taken : ∃ t, x = .next t ∧ t.cpu.imeDelay = s.cpu.imeDelay)
    (untaken : ∃ t, y = .next t ∧ t.cpu.imeDelay = s.cpu.imeDelay) :
    ∃ t, (if c then x else y) = .next t ∧ t.cpu.imeDelay = s.cpu.imeDelay := by
  split <;> assumption

/-- Only `EI`, `DI` and `RETI` touch a pending `EI`. The cases named are those that take a lemma: stores and pushes, whose
bus writes may reach any device, and the conditional forms; the others update fields of the state by name. -/
theorem exec_imeDelay {i : Instr} (wf : i.wf = true) (ei : i ≠ .ei) (di : i ≠ .di) (reti : i ≠ .reti)
    (s : State) : ∃ t, exec i s = .next t ∧ t.cpu.imeDelay = s.cpu.imeDelay := by
  cases i
  case prefixCb => cases wf
  case ei | di | reti => contradiction
  case ldAtHlB | ldAtHlC | ldAtHlD | ldAtHlE | ldAtHlH | ldAtHlL | ldAtHlA | ldAtHlN8 | ldAtBcA | ldAtDeA | ldAtN16A |
      ldhAtN8A | ldAtCA | res0AtHl | res1AtHl | res2AtHl | res3AtHl | res4AtHl | res5AtHl | res6AtHl | res7AtHl |
      set0AtHl | set1AtHl | set2AtHl | set3AtHl | set4AtHl | set5AtHl | set6AtHl | set7AtHl =>
    exact done_imeDelay_of_does _ (.write s _ _)
  case ldAtHlIncA | ldAtHlDecA => exact done_imeDelay_of_does _ (.seq (.write s _ _) (.setHl _ _))
  case incAtHl | decAtHl | rlcAtHl | rrcAtHl | rlAtHl | rrAtHl | slaAtHl | sraAtHl | swapAtHl | srlAtHl =>
    exact done_imeDelay_of_does _ (.seq (.write s _ _) (.setFlags _ _))
  case ldAtN16Sp => exact done_imeDelay_of_does _ (.seq (.write s _ _) (.write _ _ _))
  case pushBc | pushDe | pushHl | pushAf => exact done_imeDelay_of_does _ (.push16 s _)
  case callN16 | rst00 | rst08 | rst10 | rst18 | rst20 | rst28 | rst30 | rst38 =>
    exact done_imeDelay_of_does _ (.seq (.push16 s _) (.setPc _ _))
  case callNzN16 | callZN16 | callNcN16 | callCN16 =>
    exact ite_imeDelay (done_imeDelay_of_does _ (.seq (.push16 s _) (.setPc _ _))) (done_imeDelay _ rfl)
  case jpNzN16 | jpZN16 | jpNcN16 | jpCN16 | jrNzE8 | jrZE8 | jrNcE8 | jrCE8 | retNz | retZ | retNc | retC | halt =>
    exact ite_imeDelay (done_imeDelay _ rfl) (done_imeDelay _ rfl)
  case undefD3 | undefDB | undefDD | undefE3 | undefE4 | undefEB | undefEC | undefED | undefF4 | undefFC | undefFD =>
    exact ⟨_, rfl, rfl⟩
  all_goals exact done_imeDelay _ rfl

/-- With one instruction end to go, an instruction other than `DI` leaves the countdown there, or has set IME at once
(`RETI`). -/
theorem exec_eiDue {i : Instr} (wf : i.wf = true) (di : i ≠ .di) {s : State} (due : s.cpu.imeDelay = 1) :
    ∃ t, exec i s = .next t ∧ (t.cpu.imeDelay = 1 ∨ t.cpu.imeDelay = 0 ∧ t.cpu.ime = true) := by
  by_cases ei : i = .ei
  · have later : ¬(s.cpu.ime = false ∧ s.cpu.imeDelay = 0) := by omega
    subst ei
    exact ⟨_, if_neg later, .inl due⟩
  by_cases reti : i = .reti
  · subst reti
    exact ⟨_, rfl, .inr ⟨rfl, rfl⟩⟩
  obtain ⟨t, next, delay⟩ := exec_imeDelay wf ei di reti s
  exact ⟨t, next, .inl (delay.trans due)⟩

theorem State.afterInstr_of_running {s : State} (fatal : s.cpu.fatal = none) : s.afterInstr = s.countDownIme := by
  simp [State.afterInstr, fatal]

/-- The countdown keeps the fatal condition. -/
theorem State.afterInstr_fatal (s : State) : s.afterInstr.cpu.fatal = s.cpu.fatal := by
  unfold State.afterInstr State.countDownIme
  split_ifs <;> rfl

theorem State.countDownIme_due {s : State} (due : s.cpu.imeDelay = 1 ∨ s.cpu.imeDelay = 0 ∧ s.cpu.ime = true) :
    s.countDownIme.cpu.ime = true ∧ s.countDownIme.cpu.imeDelay = 0 := by
  rcases due with one | ⟨zero, on⟩
  · simp [State.countDownIme, one]
  · simp [State.countDownIme, zero, on]

theorem exec_ei {s : State} (off : s.cpu.ime = false) (quiet : s.cpu.imeDelay = 0) :
    ∃ t, exec .ei s = .next t ∧ t.cpu.ime = false ∧ t.cpu.imeDelay = 2 ∧ t.cpu.fatal = s.cpu.fatal :=
  ⟨_, if_pos ⟨off, quiet⟩, off, rfl, rfl⟩

/-- The step that runs `EI` itself counts the first of the two instruction ends (R585). -/
theorem cpuStep_ei {s : State} (fetches : s.fetches) (opcode : s.opcode = 0xFB#8) (off : s.cpu.ime = false)
    (quiet : s.cpu.imeDelay = 0) : ∃ t, cpuStep s = .next t ∧ t.cpu.ime = false ∧ t.cpu.imeDelay = 1 := by
  have fetched : s.fetched = .ei := by rw [State.fetched, opcode]; rfl
  obtain ⟨t, next, ime, two, fatal⟩ := exec_ei (s := s.afterFetch) off quiet
  obtain ⟨u, next', step⟩ := cpuStep_next_of_fetches fetches
  rw [fetched, next] at next'
  cases next'
  obtain ⟨⟨running, -⟩, -⟩ := fetches
  rw [State.afterInstr_of_running (fatal.trans running)] at step
  exact ⟨_, step, by simp [State.countDownIme, two, ime]⟩

/-- Settles O42: the step of `EI` counts the first instruction end (`cpuStep_ei`), and any instruction after it but `DI`
leaves the second to the countdown (`exec_eiDue`). -/
theorem eiLatency : Obligations.EiLatency := by
  refine ⟨fun s => cpuStep_ei, fun s t fetches due notDi step running => ?next⟩
  case next =>
    have di : s.fetched ≠ .di := by
      intro di
      have head := s.head_encode_fetched
      rw [di] at head
      exact notDi (Option.some.inj head).symm
    obtain ⟨u, next, dueAfter⟩ := exec_eiDue (s := s.afterFetch) (decode3_wf _ _ _) di due
    obtain ⟨v, next', step'⟩ := cpuStep_next_of_fetches fetches
    cases next.symm.trans next'
    cases step.symm.trans step'
    rw [State.afterInstr_of_running (u.afterInstr_fatal.symm.trans running)]
    exact State.countDownIme_due dueAfter

end Sys2Proof.Machine
end

section
/-! PROOF. Frame timing with the LCD on (R601, R604 to R606, R615, R635): what one T-cycle does to the place in the frame,
to the published frames and to the requests, then `n` of them. -/

namespace Sys2Proof.Machine

open Sys2Proof.Config

/-- Two requests for the same bit are one request. -/
theorem irqIf_or_irqIf (b c : Bool) (m : BitVec 5) : irqIf b m ||| irqIf c m = irqIf (b || c) m := by
  cases b <;> cases c <;> simp [irqIf]

/-- The pipeline requests IF bits 0 and 1 alone (R810). -/
theorem pipelineRequest_bits (vblank stat : Bool) :
    (irqIf vblank irqVBlank ||| irqIf stat irqStat).getLsbD 0 = vblank ∧
      (irqIf vblank irqVBlank ||| irqIf stat irqStat).getLsbD 1 = stat ∧
      (irqIf vblank irqVBlank ||| irqIf stat irqStat).toNat < 4 := by
  cases vblank <;> cases stat <;> decide

/-- Where the vertical blanking begins: the first dot of line 144 (R602). -/
theorem framePosition_eq_vblank_iff {p : Ppu} (dot : p.dot < dotsPerLine) :
    framePosition p = 144 * 456 ↔ p.ly.toNat = visibleLines ∧ p.dot = 0 := by
  simp only [framePosition, dotsPerLine, visibleLines] at dot ⊢
  omega

theorem framePosition_lt {p : Ppu} (h : PpuInv p) : framePosition p < 70224 := by
  have ly := h.ly
  have dot := h.dot
  simp only [framePosition, dotsPerLine, linesPerFrame] at ly dot ⊢
  omega

/-- Inside a line the dot counter alone moves (R604). -/
theorem Ppu.advanceDot_inLine {p : Ppu} (inLine : p.dot + 1 ≠ dotsPerLine) :
    p.advanceDot = ({ p with dot := p.dot + 1 }, 0#5) := if_neg inLine

/-- After the last dot of a line the next line begins, with the coincidence flag recomputed (R604). -/
theorem Ppu.advanceDot_lastDot {p : Ppu} (last : p.dot + 1 = dotsPerLine) :
    ∃ w, p.advanceDot =
      Ppu.updateCoincidence
        { p with dot := 0, ly := BitVec.ofNat 8 ((p.ly.toNat + 1) % linesPerFrame), windowLine := w } :=
  ⟨_, if_pos last⟩

/-- The number of the next line (R601). -/
theorem nextLine_toNat (ly : Byte) :
    (BitVec.ofNat 8 ((ly.toNat + 1) % linesPerFrame)).toNat = (ly.toNat + 1) % linesPerFrame :=
  Nat.mod_eq_of_lt (by simp only [linesPerFrame]; omega)

theorem nextLine_ne (ly : Byte) : BitVec.ofNat 8 ((ly.toNat + 1) % linesPerFrame) ≠ ly := by
  intro same
  have number := nextLine_toNat ly
  rw [same] at number
  simp only [linesPerFrame] at number
  omega

/-- The dot counter's step moves the place in the frame by one (R601, R604). -/
theorem Ppu.advanceDot_framePosition {p : Ppu} (h : PpuInv p) :
    framePosition p.advanceDot.1 = (framePosition p + 1) % 70224 := by
  have ly := h.ly
  have dot := h.dot
  by_cases last : p.dot + 1 = dotsPerLine
  · obtain ⟨w, next⟩ := Ppu.advanceDot_lastDot last
    rw [next]
    simp only [framePosition, Ppu.updateCoincidence, nextLine_toNat]
    simp only [dotsPerLine, linesPerFrame] at ly last ⊢
    omega
  · rw [Ppu.advanceDot_inLine last]
    simp only [framePosition, dotsPerLine, linesPerFrame] at ly dot last ⊢
    omega

/-- What the dot counter's step leaves as it was (R604). -/
theorem Ppu.advanceDot_keeps (p : Ppu) :
    p.advanceDot.1.statSel = p.statSel ∧ p.advanceDot.1.lyc = p.lyc ∧ p.advanceDot.1.mode3End = p.mode3End ∧
      p.advanceDot.1.framesOut = p.framesOut := by
  unfold Ppu.advanceDot
  split_ifs <;> exact ⟨rfl, rfl, rfl, rfl⟩

/-- The dot counter's step requests STAT exactly on an enabled new line equal to LYC: the line before was another one, so
the match is always a new one (R604, R615). -/
theorem Ppu.advanceDot_request {p : Ppu} (h : PpuInv p) (on : p.lcdOn = true) :
    p.advanceDot.2 =
      irqIf (p.statSel.getLsbD 3 && decide (p.advanceDot.1.dot = 0 ∧ p.advanceDot.1.ly = p.lyc)) irqStat := by
  by_cases last : p.dot + 1 = dotsPerLine
  · obtain ⟨w, next⟩ := Ppu.advanceDot_lastDot last
    have other := nextLine_ne p.ly
    rw [next]
    show irqIf (_ && !p.coincidence && _ && p.lcdOn) irqStat = _
    rw [h.flag, on]
    simp only [Ppu.updateCoincidence]
    generalize BitVec.ofNat 8 ((p.ly.toNat + 1) % linesPerFrame) = line at other
    by_cases isMatch : line = p.lyc
    · have unmatched : (p.ly == p.lyc) = false := beq_false_of_ne fun e => other (isMatch.trans e.symm)
      simp [isMatch, unmatched]
    · simp [isMatch, beq_false_of_ne isMatch]
  · rw [Ppu.advanceDot_inLine last]
    simp [irqIf]

/-- What a mode change leaves as it was (R605). -/
theorem Ppu.modeChange_keeps (q : Params) (vram oam : Mem) (p : Ppu) :
    (p.modeChange q vram oam).1.ly = p.ly ∧ (p.modeChange q vram oam).1.dot = p.dot ∧
      (p.modeChange q vram oam).1.lcdOn = p.lcdOn := by
  unfold Ppu.modeChange
  split_ifs <;> exact ⟨rfl, rfl, rfl⟩

theorem Ppu.modeChange_framePosition (q : Params) (vram oam : Mem) (p : Ppu) :
    framePosition (p.modeChange q vram oam).1 = framePosition p := by
  obtain ⟨ly, dot, -⟩ := p.modeChange_keeps q vram oam
  rw [framePosition, ly, dot, framePosition]

/-- Whether the dot now reached enters a mode whose STAT source is enabled: 2, 0 or 1; mode 3 has no source (R605). -/
def Ppu.entersEnabledMode (p : Ppu) : Bool :=
  (p.statSel.getLsbD 2 && decide (p.ly.toNat < visibleLines ∧ p.dot = 0)) ||
    (p.statSel.getLsbD 0 && decide (p.ly.toNat < visibleLines ∧ p.dot = p.mode3End)) ||
    (p.statSel.getLsbD 1 && decide (framePosition p = 144 * 456))

/-- Where mode 3 ends, the mode before the change is mode 3, so the guard of R604 never stops the entry to mode 0. -/
theorem DotMoved.mode_of_transferEnd {p : Ppu} (h : DotMoved p) (visible : p.ly.toNat < visibleLines)
    (position : p.dot = p.mode3End) : p.mode = .transfer := by
  have low := h.endLow
  have eighty : oamScanDots = 80 := rfl
  rw [h.modeInLine (by omega)]
  exact modeAt_transfer visible (by omega) (by omega)

/-- A mode change publishes a frame and requests VBlank at the first dot of line 144 alone, and requests STAT exactly on
entry to an enabled mode (R605, R606). -/
theorem Ppu.modeChange_effect {p : Ppu} (q : Params) (vram oam : Mem) (h : DotMoved p) :
    (p.modeChange q vram oam).1.framesOut.length =
        p.framesOut.length + bit (decide (framePosition p = 144 * 456)) ∧
      (p.modeChange q vram oam).2 =
        irqIf (decide (framePosition p = 144 * 456)) irqVBlank ||| irqIf p.entersEnabledMode irqStat := by
  have start := framePosition_eq_vblank_iff h.dot
  have low := h.endLow
  have eighty : oamScanDots = 80 := rfl
  unfold Ppu.modeChange Ppu.entersEnabledMode
  split_ifs with scan transfer blank below
  · have notEnd : ¬(p.ly.toNat < visibleLines ∧ p.dot = p.mode3End) := by omega
    have notVBlank : framePosition p ≠ 144 * 456 := by omega
    rw [decide_eq_true scan, decide_eq_false notEnd, decide_eq_false notVBlank]
    simp [Ppu.enterOamScan, irqIf, bit]
  · have notEnd : ¬(p.ly.toNat < visibleLines ∧ p.dot = p.mode3End) := by omega
    have notVBlank : framePosition p ≠ 144 * 456 := by omega
    rw [decide_eq_false scan, decide_eq_false notEnd, decide_eq_false notVBlank]
    simp [Ppu.enterTransfer, Ppu.renderLine, irqIf, bit]
  · have atEnd : p.ly.toNat < visibleLines ∧ p.dot = p.mode3End := ⟨blank.1, blank.2.1⟩
    have notVBlank : framePosition p ≠ 144 * 456 := by omega
    rw [decide_eq_false scan, decide_eq_true atEnd, decide_eq_false notVBlank]
    simp [Ppu.enterHBlank, irqIf, bit]
  · have notEnd : ¬(p.ly.toNat < visibleLines ∧ p.dot = p.mode3End) := by omega
    rw [decide_eq_false scan, decide_eq_false notEnd, decide_eq_true (start.mpr below)]
    simp [Ppu.enterVBlank, irqIf, bit]
  · have notEnd : ¬(p.ly.toNat < visibleLines ∧ p.dot = p.mode3End) :=
      fun ⟨visible, position⟩ => blank ⟨visible, position, h.mode_of_transferEnd visible position⟩
    have notVBlank : framePosition p ≠ 144 * 456 := mt start.mp below
    rw [decide_eq_false scan, decide_eq_false notEnd, decide_eq_false notVBlank]
    simp [irqIf, bit]

/-- A T-cycle with the LCD on: the dot counter moves, then the mode (R604). -/
theorem Ppu.tick_of_on {p : Ppu} (q : Params) (vram oam : Mem) (on : p.lcdOn = true) :
    p.tick q vram oam =
      ((p.advanceDot.1.modeChange q vram oam).1, p.advanceDot.2 ||| (p.advanceDot.1.modeChange q vram oam).2) :=
  if_pos on

theorem Ppu.tick_lcdOn {p : Ppu} (q : Params) (vram oam : Mem) (h : PpuInv p) (on : p.lcdOn = true) :
    (p.tick q vram oam).1.lcdOn = true := by
  obtain ⟨-, -, kept⟩ := p.advanceDot.1.modeChange_keeps q vram oam
  rw [Ppu.tick_of_on q vram oam on]
  exact kept.trans (Ppu.advanceDot_moved h on).on

/-- One T-cycle moves the place in the frame by one (R601, R604). -/
theorem Ppu.tick_framePosition {p : Ppu} (q : Params) (vram oam : Mem) (h : PpuInv p) (on : p.lcdOn = true) :
    framePosition (p.tick q vram oam).1 = (framePosition p + 1) % 70224 := by
  rw [Ppu.tick_of_on q vram oam on, Ppu.modeChange_framePosition, Ppu.advanceDot_framePosition h]

/-- One T-cycle publishes a frame when it reaches the first dot of line 144, and not otherwise (R606). -/
theorem Ppu.tick_framesOut_length {p : Ppu} (q : Params) (vram oam : Mem) (h : PpuInv p) (on : p.lcdOn = true) :
    (p.tick q vram oam).1.framesOut.length =
      p.framesOut.length + bit (decide ((framePosition p + 1) % 70224 = 144 * 456)) := by
  obtain ⟨-, -, -, kept⟩ := p.advanceDot_keeps
  obtain ⟨published, -⟩ := Ppu.modeChange_effect q vram oam (Ppu.advanceDot_moved h on)
  rw [Ppu.tick_of_on q vram oam on, published, kept, Ppu.advanceDot_framePosition h]

/-- One T-cycle requests VBlank at the first dot of line 144, and STAT exactly on an enabled mode entry or a new line equal
to LYC (R605, R606, R615). -/
theorem Ppu.tick_request {p : Ppu} (q : Params) (vram oam : Mem) (h : PpuInv p) (on : p.lcdOn = true) :
    (p.tick q vram oam).2 =
      irqIf (decide (framePosition p.advanceDot.1 = 144 * 456)) irqVBlank |||
        irqIf
          (p.advanceDot.1.entersEnabledMode ||
            (p.statSel.getLsbD 3 && decide (p.advanceDot.1.dot = 0 ∧ p.advanceDot.1.ly = p.lyc))) irqStat := by
  obtain ⟨-, request⟩ := Ppu.modeChange_effect q vram oam (Ppu.advanceDot_moved h on)
  rw [Ppu.tick_of_on q vram oam on, request, Ppu.advanceDot_request h on, BitVec.or_comm, BitVec.or_assoc,
    irqIf_or_irqIf]

/-- `n` T-cycles with the LCD on (R601, R606, R635). -/
theorem pipelineTicks_effect (q : Params) (vram oam : Mem) (n : Nat) {p : Ppu} (h : PpuInv p) (on : p.lcdOn = true) :
    framePosition (pipelineTicks q vram oam n p) = (framePosition p + n) % 70224 ∧
      (pipelineTicks q vram oam n p).framesOut.length + (framePosition p + 4560) / 70224 =
        p.framesOut.length + (framePosition p + n + 4560) / 70224 := by
  induction n generalizing p with
  | zero =>
    rw [pipelineTicks, Nat.add_zero, Nat.mod_eq_of_lt (framePosition_lt h)]
    exact ⟨rfl, rfl⟩
  | succ n ih =>
    obtain ⟨position, frames⟩ := ih (Ppu.tick_inv q vram oam h) (Ppu.tick_lcdOn q vram oam h on)
    rw [Ppu.tick_framePosition q vram oam h on] at position frames
    rw [Ppu.tick_framesOut_length q vram oam h on] at frames
    have inFrame := framePosition_lt h
    rw [pipelineTicks]
    refine ⟨by rw [position]; omega, ?_⟩
    simp only [bit, decide_eq_true_eq] at frames
    split_ifs at frames with vblank <;> omega

/-- Settles O52, by induction on the T-cycles for the place and the frames, and through the requests of the dot counter
and of the mode change for one T-cycle. -/
theorem frameTiming : Obligations.FrameTiming := by
  intro q vram oam p n h on
  obtain ⟨position, frames⟩ := pipelineTicks_effect q vram oam n h on
  refine ⟨position, frames, (p.tick q vram oam).1, (p.tick q vram oam).2, rfl, ?_⟩
  obtain ⟨statSel, -, mode3End, -⟩ := p.advanceDot_keeps
  obtain ⟨ly, dot, -⟩ := p.advanceDot.1.modeChange_keeps q vram oam
  obtain ⟨vblank, stat, small⟩ := pipelineRequest_bits
    (decide (framePosition p.advanceDot.1 = 144 * 456))
    (p.advanceDot.1.entersEnabledMode ||
      (p.statSel.getLsbD 3 && decide (p.advanceDot.1.dot = 0 ∧ p.advanceDot.1.ly = p.lyc)))
  rw [Ppu.tick_request q vram oam h on, Ppu.tick_of_on q vram oam on]
  rw [Ppu.modeChange_framePosition, ly, dot]
  refine ⟨vblank, stat.trans ?_, small⟩
  rw [Ppu.entersEnabledMode, statSel, mode3End]
  rfl

end Sys2Proof.Machine
end

section
/-! PROOF. The timer (R830 to R833): its input, and when TIMA counts. -/

namespace Sys2Proof.Machine

/-- The low two bits of TAC number the divider bit (R830). -/
theorem timerSel_of_bits (tac : BitVec 3) :
    timerSel (tac.toNat % 4) =
      match tac.getLsbD 1, tac.getLsbD 0 with
      | false, false => 9
      | false, true => 3
      | true, false => 5
      | true, true => 7 := by
  revert tac; decide

/-- Counting keeps what the input is made of (R831). -/
theorem Timer.inc_keeps (t : Timer) :
    t.inc.1.div = t.div ∧ t.inc.1.tac = t.tac ∧ t.inc.1.tma = t.tma ∧ t.inc.1.input = t.input := by
  unfold Timer.inc
  split <;> exact ⟨rfl, rfl, rfl, rfl⟩

/-- What counting does to TIMA, and when it requests the interrupt (R831). -/
theorem Timer.inc_tima (t : Timer) :
    if t.tima = 0xFF#8 then t.inc.1.tima = t.tma ∧ t.inc.2 = true
    else t.inc.1.tima = t.tima + 1#8 ∧ t.inc.2 = false := by
  by_cases full : t.tima = 0xFF#8
  · rw [if_pos full, Timer.inc, if_pos full]
    exact ⟨rfl, rfl⟩
  · rw [if_neg full, Timer.inc, if_neg full]
    exact ⟨rfl, rfl⟩

/-- An operation that moves the divider of `m` to `d` and TAC to `c` leaves them so and counts TIMA on the falling
edge alone (R830, R832, R833). -/
theorem Timer.afterEdge_counts (m : Timer) (d : BitVec 16) (c : BitVec 3) :
    ∃ n irq, Timer.afterEdge m.input { m with div := d, tac := c } = (n, irq) ∧ n.div = d ∧ n.tac = c ∧
      countsOnFall m n irq := by
  generalize moved : ({ m with div := d, tac := c } : Timer) = t
  have div : t.div = d := by rw [← moved]
  have tac : t.tac = c := by rw [← moved]
  have tima : t.tima = m.tima := by rw [← moved]
  have tma : t.tma = m.tma := by rw [← moved]
  by_cases falls : m.input = true ∧ t.input = false
  · obtain ⟨sameDiv, sameTac, sameTma, sameInput⟩ := t.inc_keeps
    have counts := t.inc_tima
    rw [tima, tma] at counts
    refine ⟨t.inc.1, t.inc.2, ?_, sameDiv.trans div, sameTac.trans tac, sameTma.trans tma, ?_⟩
    · simp [Timer.afterEdge, falls]
    · rwa [sameInput, if_pos falls]
  · have idle : ¬(m.input && !t.input) = true := by simpa using falls
    exact ⟨t, false, if_neg idle, div, tac, tma, by rw [if_neg falls]; exact ⟨tima, rfl⟩⟩

/-- The timer's request is IF bit 2 (R810, R831). -/
theorem State.putTimer_eq (s : State) (n : Timer) (irq : Bool) :
    s.putTimer (n, irq) = { s with timer := n, intf := if irq then s.intf ||| 0x04#5 else s.intf } :=
  congrArg (fun m => { s with timer := n, intf := m }) (or_irqIf s.intf irqTimer Iff.rfl)

/-- A write to DIV on the bus (R832). -/
theorem memWrite_div (s : State) (v : Byte) : memWrite s 0xFF04#16 v = s.putTimer s.timer.divReset :=
  memWrite_ioAddress 0x04 s v

/-- A write to TAC on the bus (R833). -/
theorem memWrite_tac (s : State) (v : Byte) : memWrite s 0xFF07#16 v = s.putTimer (s.timer.writeTac v) :=
  memWrite_ioAddress 0x07 s v

/-- What TAC stores of a written byte (R78). -/
theorem storedTac_toNat (v : Byte) : (v.extractLsb' 0 3).toNat = v.toNat % 8 := by
  rw [extractLsb'_eq_ofNat, BitVec.toNat_ofNat, Nat.pow_zero, Nat.div_one]

/-- Settles O51: a T-cycle, a write to DIV and a write to TAC are one operation, `Timer.afterEdge`, with another divider
or another TAC (`Timer.afterEdge_counts`). -/
theorem timerEdges : Obligations.TimerEdges := by
  intro s v
  refine ⟨?input, ?tick, ?div, ?tac⟩
  case input =>
    exact congrArg (fun i => s.timer.tac.getLsbD 2 && s.timer.div.getLsbD i) (timerSel_of_bits s.timer.tac)
  case tick => exact s.timer.afterEdge_counts (s.timer.div + 1#16) s.timer.tac
  case div =>
    obtain ⟨n, irq, reset, div, tac, counts⟩ := s.timer.afterEdge_counts 0#16 s.timer.tac
    refine ⟨n, irq, ?_, div, tac, counts⟩
    rw [memWrite_div, Timer.divReset, reset, State.putTimer_eq]
  case tac =>
    obtain ⟨n, irq, write, div, tac, counts⟩ := s.timer.afterEdge_counts s.timer.div (v.extractLsb' 0 3)
    refine ⟨n, irq, ?_, div, by rw [tac, storedTac_toNat], counts⟩
    rw [memWrite_tac, Timer.writeTac, write, State.putTimer_eq]

end Sys2Proof.Machine
end

section
/-! PROOF. The outcomes of a step (R800 to R803, R860, R881), taking an interrupt (R583, R811 to R813), and the step
that runs an instruction (R18, R583, R800, R860). -/

namespace Sys2Proof.Machine

/-! ## The outcomes of a step -/

/-- No instruction ends in a fault or a refusal, so fetching and executing one answers a next state (R803). -/
theorem executeOne_next (s : State) : ∃ t, executeOne s = .next t := by
  obtain ⟨t, next, -⟩ := exec_does s.fetched s.afterFetch
  exact ⟨t.afterInstr, by rw [executeOne, next]⟩

/-- With nothing pending a processor that is neither stalled, halted nor stopped executes (R800). -/
theorem cpuStep_quiet {s : State} (stall : s.cpu.dmaStall = 0) (quiet : s.pending = 0#5)
    (awake : ¬(s.cpu.halted = true ∨ s.cpu.stopped = true)) : cpuStep s = executeOne s.wake := by
  have runs : ¬((s.cpu.stopped || s.cpu.halted) && s.pending == 0#5) = true := by simpa [quiet, or_comm] using awake
  have masked : ¬(s.cpu.ime && s.pending != 0#5) = true := by simp [quiet]
  rw [cpuStep, if_neg (by omega), if_neg runs, if_neg masked]

/-- Each branch of the processor step answers a next state (R800, R803). -/
theorem cpuStep_next (s : State) : ∃ t, cpuStep s = .next t := by
  rcases Nat.eq_zero_or_pos s.cpu.dmaStall with stall | stall
  · by_cases quiet : s.pending = 0#5
    · by_cases waits : s.cpu.halted = true ∨ s.cpu.stopped = true
      · exact ⟨_, cpuStep_idle stall waits quiet⟩
      · rw [cpuStep_quiet stall quiet waits]
        exact executeOne_next s.wake
    · rw [cpuStep_requested stall quiet]
      split
      · exact ⟨_, rfl⟩
      · exact executeOne_next s.wake
  · exact ⟨_, cpuStep_stalled stall⟩

/-- The step of a run that a host stop or PROFILE_DURATION has ended answers the fault that names which (R881;
log 2). -/
theorem step_of_ended {s : State} {k : StopKind} (fatal : s.cpu.fatal = none) (ended : s.ended = some k) :
    step s = .fault (.runEnded k) := by
  simp only [step, iteration, fatal, ended]

/-- Settles O38: a going run's step is the processor step, which always answers (`cpuStep_next`), and the two ends are
the first two branches of `iteration`. -/
theorem stepOutcomes : Obligations.StepOutcomes := by
  intro s
  refine ⟨fun run => ?_, fun u fatal => step_of_fatal fatal, fun k fatal ended => step_of_ended fatal ended⟩
  obtain ⟨t, next⟩ := cpuStep_next s
  exact ⟨finishIteration t, step_of_cpuStep run next⟩

/-! ## Taking an interrupt -/

/-- The source that `lowestPending` chooses is pending, and none below it is (R812). -/
theorem lowestPending_spec :
    ∀ p : BitVec 5, p ≠ 0#5 →
      lowestPending p < 5 ∧ p.getLsbD (lowestPending p) = true ∧ ∀ j < lowestPending p, p.getLsbD j = false := by
  decide

/-- Two bus writes leave the processor but for a stall they may start. -/
theorem memWrite_memWrite_cpu (s : State) (a b : Word) (v w : Byte) :
    (memWrite (memWrite s a v) b w).cpu =
      { s.cpu with dmaStall := (memWrite (memWrite s a v) b w).cpu.dmaStall } :=
  (memWrite_cpu (memWrite s a v) b w).trans
    (congrArg (fun c => { c with dmaStall := (memWrite (memWrite s a v) b w).cpu.dmaStall }) (memWrite_cpu s a v))

/-- Taking an interrupt in the state that has been woken up: the pushes are bus writes to `s` itself, and of the
processor SP, pc, IME, the cycle count and the three states it leaves change (R583, R813). -/
theorem takeInterrupt_wake {s u : State} (k : Nat)
    (pushed : u = memWrite (memWrite s (s.cpu.sp - 1#16) (hi s.returnPc)) (s.cpu.sp - 2#16) (lo s.returnPc)) :
    takeInterrupt k s.wake =
      { u with
        intf := u.intf &&& ~~~(1#5 <<< k)
        cpu :=
          { u.cpu with
            sp := s.cpu.sp - 2#16, pc := BitVec.ofNat 16 (0x40 + 8 * k), ime := false, halted := false,
            stopped := false, haltBug := false, cycles := 5 } } := by
  have kept : u.cpu = { s.cpu with dmaStall := u.cpu.dmaStall } := by
    rw [pushed]
    exact memWrite_memWrite_cpu s _ _ _ _
  have pushes : push16 { s.wake with cpu := { s.wake.cpu with haltBug := false } } s.returnPc =
      u.withCpu
        { s.cpu with
          sp := s.cpu.sp - 2#16, halted := false, stopped := false, haltBug := false, dmaStall := u.cpu.dmaStall } := by
    rw [pushed]
    exact push16_withCpu s { s.cpu with halted := false, stopped := false, haltBug := false } s.returnPc rfl
  rw [kept, takeInterrupt, show s.wake.returnPc = s.returnPc from rfl, pushes]
  rfl

/-- Settles O39: the branch of `cpuStep` that dispatches (`cpuStep_requested`) takes the lowest pending source
(`lowestPending_spec`). -/
theorem interruptDispatch : Obligations.InterruptDispatch := by
  intro s run stall ime requested
  have pending := s.pending_ne_zero_iff.mpr requested
  obtain ⟨lt, chosen, lowest⟩ := lowestPending_spec s.pending pending
  have next : cpuStep s = .next (takeInterrupt (lowestPending s.pending) s.wake) :=
    (cpuStep_requested stall pending).trans (if_pos ime)
  rw [s.pending_getLsbD lt, Bool.and_eq_true] at chosen
  obtain ⟨enabled, made⟩ := chosen
  refine ⟨lowestPending s.pending, _, s.returnPc, _, lt, enabled, made, fun j below => ?_, rfl, rfl, next,
    step_of_cpuStep run next, takeInterrupt_wake _ rfl⟩
  rw [← Bool.and_eq_false_iff, ← s.pending_getLsbD (below.trans lt)]
  exact lowest j below

/-! ## Running an instruction -/

/-- The bytes fetched at pc decode to the fetched instruction (R309). -/
theorem State.decode_fetched (s : State) :
    ∃ rest, decode [memRead s s.cpu.pc, memRead s s.operandPc, memRead s (s.operandPc + 1#16)] = .ok (s.fetched, rest) :=
  ⟨_, decode_three _ _ _ []⟩

/-- After the fetch pc is past the bytes of the fetched instruction (R53, R800; log 3). -/
theorem State.afterFetch_eq (s : State) :
    s.afterFetch =
      { s with
        cpu :=
          { s.cpu with
            pc := s.operandPc + BitVec.ofNat 16 ((encode s.fetched).length - 1)
            haltBug := false
            opAddr := s.cpu.pc } } := by
  rw [s.length_encode_fetched]
  rfl

/-- Settles O5: the decoded instruction is the fetched one, which `cpuStep` runs (`cpuStep_next_of_fetches`). -/
theorem stepRunsInstruction : Obligations.StepRunsInstruction := by
  intro s i rest fetches decoded
  obtain ⟨rest', decoded'⟩ := s.decode_fetched
  obtain ⟨rfl, -⟩ : s.fetched = i ∧ rest' = rest := by simpa using decoded'.symm.trans decoded
  refine ⟨rfl, s.afterFetch_eq, ?step⟩
  obtain ⟨t, next, step⟩ := cpuStep_next_of_fetches fetches
  obtain ⟨run, -⟩ := fetches
  rw [step_of_cpuStep run step, next]

end Sys2Proof.Machine
end
